-- ==== Sys2Proof/Word.lean ====
section
/-! DEFINITION. The words of the WZB-2128: bytes of frames and buffer memory, and the 32-bit words of the
register window (spec/11). -/

namespace Sys2Proof

/-- A byte of a frame, of buffer memory, or of a register field. -/
abbrev Byte := BitVec 8

/-- A word of the register window or of the buffer window. -/
abbrev Word := BitVec 32

/-- The number of a station record, 0 to 127 (spec/00, Handles). -/
abbrev RecIdx := Fin 128

/-- The number of an exchange slot, 0 to 31 (R34). -/
abbrev SlotIdx := Fin 32

end Sys2Proof
end

