-- ==== Sys2Proof/Config.lean ====
section
/-! DEFINITION. What an implementation fixes and the manual leaves open: the free values. -/

namespace Sys2Proof

/-- FREE VALUE (log 8). The byte reported for a field whose presence flag is clear: "a value reported with the
flag clear has no meaning" (R23, R63). It has no body, so nothing can be proved of it. It is applied to
`State.freeCount`, so that each report may show another byte. The SUB byte of an ECHO frame, for which the spec gives no
value, is drawn from it too (log 32). -/
opaque Config.freeByte : Nat → Byte

end Sys2Proof
end

