-- ==== Sys2Proof/Syntax.lean ====
section
/-! DEFINITION. The commands of the WZB-2128: one constructor of `Instr` for each row of spec/opcode_table.json,
with the operands the row's event carries. -/

namespace Sys2Proof

/-- The two trunks (spec/00). -/
inductive TrunkId where
  | a | b
  deriving DecidableEq, Repr

/-- A character received on a line: its eight data bits, and whether its stop bit was at the idle level (R148).
A character whose stop bit was not is a character error. -/
structure RxChar where
  value : Byte
  stopOk : Bool
  deriving DecidableEq, Repr

/-- The part of a register window word that an access reaches (R188): the word, its low or high halfword, or
one of its four bytes, byte 0 the least significant. The spec gives no meaning to a halfword or word access of this
window at an address that is no multiple of its size (R189 speaks of the buffer window alone): the commands have aligned
parts only, such an access standing for the aligned part that contains its address (DESIGN CHOICE, log 34). -/
inductive Part where
  | word
  | half (high : Bool)
  | byte (n : Fin 4)
  deriving DecidableEq, Repr

/-- The size of an access of the buffer window (R189). -/
inductive Access where
  | byte | half | word
  deriving DecidableEq, Repr

/-- The commands. The first twenty and `badCommand` are the execution of the command the port has accepted;
their arguments stand in the port's snapshot (R181, R182), so they carry none. -/
inductive Instr where
  -- the directory commands (spec/01, spec/08)
  | enrol
  | find
  | inspect
  | modify
  | hold
  | resume
  | retire
  | move
  -- the exchange commands (spec/02, spec/04)
  | submit
  | cancel
  | collect
  | claim
  | unclaim
  -- the service command (spec/06)
  | endService
  -- the trunk commands (spec/07)
  | trunkEnable
  | trunkDisable
  | trunkTest
  | echo
  -- the parameter commands (spec/09)
  | setParam
  | getParam
  -- a command code that names no command (R182)
  | badCommand
  -- host accesses of the register window and of the buffer window (spec/09, spec/10)
  | commandWriteIgnored (v : Word)
  | overrunClear (v : Word)
  | resultCodeRead (p : Part)
  | controllerReset (v : Word)
  | serviceAcknowledge (p : Part)
  | changeWordRead (k : Fin 4) (p : Part)
  | changeWordWrite (k : Fin 4) (v : Word)
  | trunkEventClear (v : Word)
  | interruptEnableWrite (v : Word)
  | strayCountRead (t : TrunkId) (p : Part)
  | bufferWindowWrite (addr : BitVec 14) (size : Access) (v : Word)
  | registerWrite (off : BitVec 6) (p : Part) (v : Word)
  -- the power-on reset input and the end of the power-on clear (R179)
  | powerOnReset
  | powerOnClearEnd
  -- timer expiries (R1)
  | pollTimerExpiry (r : RecIdx)
  | repeatTimerExpiry (n : SlotIdx)
  | periodTimerExpiry (n : SlotIdx)
  | resyncWaitExpiry (r : RecIdx)
  | replyWindowExpiry (t : TrunkId)
  | guardTimerExpiry (t : TrunkId)
  | lineHoldExpiry (t : TrunkId)
  -- frames on a trunk (spec/07)
  | arbiterTakesOffer (t : TrunkId)
  | transmissionEnd (t : TrunkId)
  | replyStart (t : TrunkId)
  | replyTaken (t : TrunkId) (chars : List RxChar)
  | replyGapTimeout (t : TrunkId)
  | strayByte (t : TrunkId) (c : RxChar)
  | loopbackCharacter (t : TrunkId) (c : RxChar)
  | echoListenExpiry (t : TrunkId)
  -- acceptance of a command (R181), the line's level (R163), release of the reset input (R179)
  | commandWordWrite (v : Word)
  | receiveInputLevelChange (t : TrunkId) (idle : Bool) (lead : Nat)
  | powerOnResetRelease
  deriving DecidableEq, Repr

end Sys2Proof
end

