-- ==== Sys2Proof/Machine/State.lean ====
section
/-! DEFINITION. The state of the WZB-2128 as plain data, block by block (spec/00, Table 0-1), and its value after
reset. -/

namespace Sys2Proof.Machine

/-! ### Names of values -/

/-- The states of a station record (Table 1-2). -/
inductive StationState where
  | vacant | enrolling | active | suspect | held | lost | recovering | retiring
  deriving DecidableEq, Repr

/-- The reasons a record holds as last fault (R10). -/
inductive LastFault where
  | none | noResponse | lineError | trunkDown | resyncRejected
  deriving DecidableEq, Repr

/-- The two kinds of miss (R67, R115). -/
inductive Miss where
  | noReply | badReply
  deriving DecidableEq, Repr

/-- The states of an exchange slot (R34). -/
inductive SlotState where
  | free | queued | active | repeatWait | standingWait | complete
  deriving DecidableEq, Repr

/-- The six kinds of exchange (spec/02, section 2.3). -/
inductive ExchangeKind where
  | read | write | control | sweepRead | groupWrite | standingRead
  deriving DecidableEq, Repr

/-- The ready modes STOP, REPEAT and SKIP (Table 11-5). -/
inductive ReadyMode where
  | stop | repeatBusy | skip
  deriving DecidableEq, Repr

/-- The completion codes (Table 2-3a). -/
inductive CompletionCode where
  | done | doneSkipped | doneShort | notReady | rejected | noResponse | lineError | sweepLimit
  | stationLost | trunkFault | retired | cancelled | noMembers | groupPartial
  deriving DecidableEq, Repr

/-- The step a slot's next frame is (R65): the first frame of a segment, a retry after the miss named, or a
repeat after BUSY. -/
inductive PendingStep where
  | first | retry (m : Miss) | again
  deriving DecidableEq, Repr

/-- The roles of a standing read's buffers (Table 4-2). -/
inductive Role where
  | empty | filling | fresh | seen | heldByHost
  deriving DecidableEq, Repr

/-- The condition of a group write's copy for one trunk (R92); `unused` when the trunk was not chosen at
dispatch, `withdrawn` when a CANCEL took it back before it was begun (R60). -/
inductive CopyState where
  | unused | offered | sending | sentWhole | dropped | withdrawn
  deriving DecidableEq, Repr

/-- The trunk states (Table 7-4). -/
inductive TrunkState where
  | disabled | online | test | fault
  deriving DecidableEq, Repr

/-- The three sources that share a trunk (R160). -/
inductive Source where
  | link | group | station
  deriving DecidableEq, Repr

/-- The kinds of command frame (Table 11-12). -/
inductive FrameKind where
  | poll | read | write | control | resync | echo
  deriving DecidableEq, Repr

/-- The reply codes (Table 11-12). -/
inductive ReplyCode where
  | ack | busy | reject
  deriving DecidableEq, Repr

/-- The states of the Command Port (Table 9-1). -/
inductive PortState where
  | initializing | idle | busy
  deriving DecidableEq, Repr

/-- The result codes (Table 9-3, Table 11-10). -/
inductive ResultCode where
  | none | ok | badCommand | badArgument | staleHandle | addressInUse | directoryFull | noSuchAddress
  | stationState | stationLost | stationBusy | inService | order | nothingInService | noFreeSlot
  | standingLimit | bufferRange | noSuchExchange | notComplete | alreadyComplete | cancelPending
  | nothingFresh | trunkState | trunkInUse | retiring | retired | pass | fail
  deriving DecidableEq, Repr

/-! ### Timers and buffer memory -/

/-- A timer: stopped, or running with the number of tick boundaries left (R1). -/
abbrev Timer := Option Nat

/-- Buffer memory (R189): the bytes that are not 0, in rising order of address. An unlisted address reads 0, the
value the power-on clear gives every byte (R179). -/
abbrev Memory := List Host.Cell

/-! ### Station Directory, Poll Scheduler and Service Arbiter -/

/-- What the part keeps for one record index: the station record of Table 1-1, the Poll Scheduler's poll timer
(R108) and resync context (R124), the Exchange Engine's station queue (R53), and the Service Arbiter's coalesce
count and re-raise flag (R130). Queue length (R13) is the length of `queue`. -/
structure Station where
  address : Byte
  state : StationState
  generation : Byte
  homeTrunk : TrunkId
  altTrunk : Option TrunkId
  curTrunk : TrunkId
  pollClass : Fin 4
  groups : List Byte
  priority : Fin 8
  vector : Byte
  armed : Bool
  nextToggle : Bool
  missCount : Nat
  lastFault : LastFault
  lastStatus : Option Byte
  resyncNeeded : Bool
  pollTimer : Timer
  resyncRetries : Nat
  resyncRepeats : Nat
  resyncWait : Timer
  queue : List SlotIdx
  coalesce : Nat
  reRaise : Bool
  deriving DecidableEq, Repr

/-- The values of R32, R129 and R147 for a record after power-on reset (the address: log 17). -/
def Station.reset : Station :=
  { address := 0, state := .vacant, generation := 0, homeTrunk := .a, altTrunk := none, curTrunk := .a,
    pollClass := 0, groups := [], priority := 0, vector := 0, armed := false, nextToggle := false,
    missCount := 0, lastFault := .none, lastStatus := none, resyncNeeded := false, pollTimer := none,
    resyncRetries := 0, resyncRepeats := 0, resyncWait := none, queue := [], coalesce := 0, reRaise := false }

/-- An entry of the in-service stack (R132). -/
structure StackEntry where
  record : RecIdx
  generation : Byte
  priority : Fin 8
  vector : Byte
  deriving DecidableEq, Repr

/-! ### Exchange Engine -/

/-- An exchange slot: the fields of Table 2-1, the pending step (R65), the segment toggle (R74) and the segment
image (R72), the standing read fields of Table 4-1, and the conditions of a group write's copies (R92). -/
structure Slot where
  state : SlotState
  kind : ExchangeKind
  target : BitVec 16
  subAddress : Byte
  offset : Nat
  offset2 : Nat
  length : Nat
  segmentSize : Nat
  readyMode : ReadyMode
  repeatLimit : Nat
  period : Nat
  tag : BitVec 16
  bytesDone : Nat
  bytesTransferred : Nat
  curSegment : Nat
  curSub : Byte
  retries : Nat
  repeats : Nat
  attempts : Nat
  skipped : Nat
  cancelRequested : Bool
  code : Option CompletionCode
  lastStatus : Option Byte
  timer : Timer
  pendingStep : PendingStep
  segToggle : Option Bool
  image : List Byte
  role1 : Role
  role2 : Role
  fill1 : BitVec 16
  fill2 : BitVec 16
  cycles : BitVec 16
  cycleMisses : Nat
  overruns : Nat
  copyA : CopyState
  copyB : CopyState
  deriving DecidableEq, Repr

/-- A slot after power-on reset: FREE, its timer stopped and cancel requested no (R64); the other fields hold
values no command reports (R41, log 17). -/
def Slot.reset : Slot :=
  { state := .free, kind := .read, target := 0, subAddress := 0, offset := 0, offset2 := 0, length := 0,
    segmentSize := 0, readyMode := .stop, repeatLimit := 0, period := 0, tag := 0, bytesDone := 0,
    bytesTransferred := 0, curSegment := 0, curSub := 0, retries := 0, repeats := 0, attempts := 0,
    skipped := 0, cancelRequested := false, code := none, lastStatus := none, timer := none,
    pendingStep := .first, segToggle := none, image := [], role1 := .empty, role2 := .empty, fill1 := 0,
    fill2 := 0, cycles := 0, cycleMisses := 0, overruns := 0, copyA := .unused, copyB := .unused }

/-! ### Trunk Controllers -/

/-- A command frame (R149) less its preamble and its check, which are computed from it. `count` is the COUNT
field; a READ frame has a count and no payload. -/
structure Frame where
  dest : Byte
  kind : FrameKind
  toggle : Bool
  last : Bool
  sub : Byte
  count : Byte
  payload : List Byte
  deriving DecidableEq, Repr

/-- The block's work a frame was sent for (R158, R160): a segment of a slot for its station, a group write's
copy, a POLL (a probe, when the station is LOST), or a RESYNC. -/
inductive FrameOwner where
  | exchange (n : SlotIdx) (r : RecIdx)
  | groupCopy (n : SlotIdx)
  | poll (r : RecIdx)
  | resync (r : RecIdx)
  deriving DecidableEq, Repr

/-- How far the frame in flight has come (R154 to R156): being transmitted, the reply window open, or its reply
being received. -/
inductive FramePhase where
  | transmitting | window | receiving
  deriving DecidableEq, Repr

/-- The frame in flight on a trunk (R154). `reply` holds the characters taken so far, after its preamble, of the reply
being received (R156). -/
structure InFlight where
  owner : FrameOwner
  frame : Frame
  phase : FramePhase
  reply : List RxChar := []
  deriving DecidableEq, Repr

/-- A Trunk Controller (spec/07), with the Poll Scheduler's two link lists for the trunk (R111) and the
Notification Unit's event flag for it (R194). `order` lists the sources from least to most recently served.
`rxIdle` is the level of the receive input; `idleFor` is the idle history of R162 in units of 1.25 us, at most
128, and `idleNew` says that no tick boundary has passed since the level last changed (log 12). `rxChar` says that a
character is being received; it acts in ONLINE alone (R163) and is kept there alone (log 21). `rxHeld` says that the line
is held at the non-idle level after a character error, and gives no character until it returns to idle (R148). -/
structure Trunk where
  state : TrunkState
  inFlight : Option InFlight
  replyTimer : Timer
  guardTimer : Timer
  lineHold : Timer
  strayCount : Nat
  order : List Source
  lastServed : RecIdx
  rate : Fin 4
  rxIdle : Bool
  idleFor : Nat
  idleNew : Bool
  rxChar : Bool
  rxHeld : Bool
  resyncList : List RecIdx
  pollDue : List RecIdx
  eventFlag : Bool
  deriving DecidableEq, Repr

/-- A Trunk Controller after power-on reset (R129, R161, R168, R196), with a line at rest (log 13). -/
def Trunk.reset : Trunk :=
  { state := .disabled, inFlight := none, replyTimer := none, guardTimer := none, lineHold := none,
    strayCount := 0, order := [.link, .group, .station], lastServed := 127, rate := 1, rxIdle := true,
    idleFor := 128, idleNew := false, rxChar := false, rxHeld := false, resyncList := [], pollDue := [],
    eventFlag := false }

/-! ### Command Port -/

/-- The parameters (Table 9-4). -/
structure Params where
  pollPeriod0 : Nat
  pollPeriod1 : Nat
  pollPeriod2 : Nat
  pollPeriod3 : Nat
  probePeriod : Nat
  replyWindow : Nat
  guardTime : Nat
  repeatInterval : Nat
  retryLimit : Nat
  suspectAt : Nat
  lostAt : Nat
  lineHoldTime : Nat
  spuriousVector : Nat
  rateA : Nat
  rateB : Nat
  deriving DecidableEq, Repr

/-- The defaults of Table 9-4 (R179). -/
def Params.reset : Params :=
  { pollPeriod0 := 100, pollPeriod1 := 1000, pollPeriod2 := 10000, pollPeriod3 := 50000, probePeriod := 20000,
    replyWindow := 20, guardTime := 1, repeatInterval := 50, retryLimit := 3, suspectAt := 2, lostAt := 5,
    lineHoldTime := 100, spuriousVector := 255, rateA := 1, rateB := 1 }

/-- An ECHO in progress (R167): the characters sent, those taken so far, whether the frame is still being
transmitted, and the timer of REPLY_WINDOW ticks that runs after its last character. -/
structure EchoTest where
  trunk : TrunkId
  sent : List Byte
  taken : List RxChar
  transmitting : Bool
  listen : Timer
  deriving DecidableEq, Repr

/-- The Command Port (spec/09). `due` says that a tick boundary has passed since the acceptance of the command in progress,
at which a command other than ECHO takes its effect (R182). `resetHeld` is the power-on reset input; `clearTimer` times the power-on clear
from the input's release (R179). -/
structure Port where
  state : PortState
  args : Vector Word 6
  snapshot : Vector Word 6
  command : Byte
  code : ResultCode
  values : Vector Word 6
  done : Bool
  overrun : Bool
  params : Params
  echo : Option EchoTest
  due : Bool
  resetHeld : Bool
  clearTimer : Timer
  deriving DecidableEq, Repr

/-- The Command Port after power-on reset (R179), the reset input just released (log 14). -/
def Port.reset : Port :=
  { state := .initializing, args := Vector.replicate 6 0, snapshot := Vector.replicate 6 0, command := 0,
    code := .none, values := Vector.replicate 6 0, done := false, overrun := false, params := Params.reset,
    echo := none, due := false, resetHeld := false, clearTimer := some 2 }

/-! ### The whole part -/

/-- The state of the WZB-2128. `pending` is the queue of the commands that wait, first in first out (log 1).
`serviceStack` has the top entry first. `busRead` is what the last read with a command of its own returned to
the host (log 7). `freeCount` numbers the free values drawn (log 8). -/
structure State where
  pending : List Instr
  port : Port
  stations : Vector Station 128
  index : Vector (Option RecIdx) 256
  slots : Vector Slot 32
  groupQueue : List SlotIdx
  serviceLists : Vector (List RecIdx) 8
  serviceStack : List StackEntry
  trunkA : Trunk
  trunkB : Trunk
  completions : Vector Bool 32
  changeFlags : Vector Bool 128
  seenMarks : Vector Bool 128
  enableMask : BitVec 5
  interruptLine : Bool
  buffer : Memory
  busRead : Word
  freeCount : Nat
  deriving DecidableEq, Repr

/-- The machine right after power-on reset (R32, R64, R129, R147, R168, R179, R196). -/
def State.reset : State :=
  { pending := [], port := Port.reset, stations := Vector.replicate 128 Station.reset,
    index := Vector.replicate 256 none, slots := Vector.replicate 32 Slot.reset, groupQueue := [],
    serviceLists := Vector.replicate 8 [], serviceStack := [], trunkA := Trunk.reset, trunkB := Trunk.reset,
    completions := Vector.replicate 32 false, changeFlags := Vector.replicate 128 false,
    seenMarks := Vector.replicate 128 false, enableMask := 0, interruptLine := false, buffer := [],
    busRead := 0, freeCount := 0 }

/-- The reasons a step can fault. There is none: no rule of the spec has the part stop (INVENTORY.md, Faults),
so no meaning raises a fault. -/
inductive Fault where
  deriving DecidableEq, Repr

/-- The reasons a step can be refused. -/
inductive Refusal where
  /-- A command whose meaning is not written yet, by its mnemonic. Raised by a refused arm of `exec` alone;
  safe, because the machine stops where the hardware goes on. -/
  | notModelled (mnemonic : String)
  deriving DecidableEq, Repr

end Sys2Proof.Machine
end

