-- ==== Sys2Proof/Machine/Buffer.lean ====
section
/-! DEFINITION. Buffer memory: its canonical form, the reading and writing of bytes, and the host's buffer window
(R72, R73, R189). -/

namespace Sys2Proof.Machine

/-- The number of bytes of buffer memory (spec/00, Numbers and memory). -/
abbrev bufferSize : Nat := 16384

/-- What a byte that is not listed reads as: the power-on clear leaves every byte 0 (R179). -/
abbrev unlistedByte : Byte := 0

/-- The byte at an address. -/
def Memory.read : Memory → Nat → Byte
  | [], _ => unlistedByte
  | (a, v) :: m, x => if a = x then v else Memory.read m x

/-- Put a byte at an address of a list in canonical form, keeping the form. -/
def Memory.insert : Memory → Nat → Byte → Memory
  | [], x, v => if v = unlistedByte then [] else [(x, v)]
  | (a, w) :: m, x, v =>
    if x < a then (if v = unlistedByte then (a, w) :: m else (x, v) :: (a, w) :: m)
    else if x = a then (if v = unlistedByte then m else (x, v) :: m)
    else (a, w) :: Memory.insert m x v

/-- Write a byte. There is no byte outside the 16 384 of buffer memory, so a write there reaches none. -/
def Memory.write (m : Memory) (x : Nat) (v : Byte) : Memory :=
  if x < bufferSize then m.insert x v else m

/-- Write consecutive bytes from an address on. -/
def Memory.writeBytes : Memory → Nat → List Byte → Memory
  | m, _, [] => m
  | m, x, v :: vs => Memory.writeBytes (m.write x v) (x + 1) vs

/-- Read consecutive bytes from an address on. -/
def Memory.readBytes (m : Memory) (x len : Nat) : List Byte :=
  (List.range len).map fun i => m.read (x + i)

/-- The canonical form: every listed address lies in buffer memory and above `lo`, the addresses rise strictly,
and no listed byte is what an unlisted byte reads as. -/
def Memory.wfFrom : Nat → Memory → Bool
  | _, [] => true
  | lo, (a, v) :: m => decide (lo ≤ a) && decide (a < bufferSize) && decide (v ≠ unlistedByte) && Memory.wfFrom (a + 1) m

/-- The memory is in canonical form. -/
def Memory.wf (m : Memory) : Bool := Memory.wfFrom 0 m

/-- The number of bytes an access of the buffer window reaches (R189). -/
def accessBytes : Access → Nat
  | .byte => 1
  | .half => 2
  | .word => 4

/-- The first byte an access reaches: the address bits below the size are ignored (R189). -/
def accessBase (addr : BitVec 14) (size : Access) : Nat :=
  addr.toNat / accessBytes size * accessBytes size

/-- Byte k of a word, byte 0 the least significant (R188). -/
def byteOf (w : Word) (k : Nat) : Byte := w.extractLsb' (8 * k) 8

/-- The bytes an access of that size writes: the low bytes of the command's operand, in little-endian order. On which
lanes of the bus a byte or halfword write carries its data, whatever its address, the spec does not say: the operand's low
bytes are the model's choice (DESIGN CHOICE, log 33). -/
def accessData (size : Access) (v : Word) : List Byte :=
  (List.range (accessBytes size)).map (byteOf v)

/-- The word with the bytes given, byte 0 the least significant (R188). -/
def packBytes (b0 b1 b2 b3 : Byte) : Word := b3 ++ b2 ++ b1 ++ b0

/-- What a host read of the buffer window returns (R180, R189): 0 while the port is INITIALIZING, else the bytes
of buffer memory, those above the access's size 0 (log 28). -/
def bufferView (s : State) (addr : BitVec 14) (size : Access) : Word :=
  if s.port.state = .initializing then 0
  else
    let bytes := s.buffer.readBytes (accessBase addr size) (accessBytes size)
    packBytes (bytes.getD 0 0) (bytes.getD 1 0) (bytes.getD 2 0) (bytes.getD 3 0)

end Sys2Proof.Machine
end

