-- ==== Sys2Proof/Machine/Operands.lean ====
section
/-! DEFINITION. The layouts of spec/11: fields of argument words, handles, and the numeric values of every code,
in both directions. -/

namespace Sys2Proof.Machine

/-! ### Fields of words -/

/-- The low 16 bits of a word. -/
def lowHalf (w : Word) : BitVec 16 := w.extractLsb' 0 16

/-- The high 16 bits of a word. -/
def highHalf (w : Word) : BitVec 16 := w.extractLsb' 16 16

/-- A byte of a word as a number. -/
def field (w : Word) (k : Nat) : Nat := (byteOf w k).toNat

/-- A number in a result word. -/
def num (n : Nat) : Word := BitVec.ofNat 32 n

/-- A word made of a low and a high halfword. -/
def halves (lo hi : Nat) : Word := num (lo % 65536 + 65536 * (hi % 65536))

/-! ### Handles (R2, section 11.2) -/

/-- The handle of a record: its index in bits 0-6, bit 7 zero, the generation in bits 8-15. -/
def handleOf (r : RecIdx) (g : Byte) : BitVec 16 := g ++ BitVec.ofNat 8 r.val

/-- The record index in a handle's low seven bits. -/
def handleIndex (h : BitVec 16) : RecIdx := ⟨h.toNat % 128, Nat.mod_lt _ (by decide)⟩

/-- The generation in a handle's high byte. -/
def handleGeneration (h : BitVec 16) : Byte := h.extractLsb' 8 8

/-- The most significant bit of a handle's low byte, which names no record when it is 1 (R2). -/
def handleBit7 (h : BitVec 16) : Bool := h.getLsbD 7

/-! ### Codes read from argument fields (R197: a value without a meaning is out of range) -/

/-- A trunk: 0 for A, 1 for B. -/
def trunkOf : Nat → Option TrunkId
  | 0 => some .a
  | 1 => some .b
  | _ => none

/-- An alternate trunk: 0 for A, 1 for B, 2 for absent. -/
def altTrunkOf : Nat → Option (Option TrunkId)
  | 0 => some (some .a)
  | 1 => some (some .b)
  | 2 => some none
  | _ => none

/-- Yes is 1 and no is 0. -/
def yesNoOf : Nat → Option Bool
  | 0 => some false
  | 1 => some true
  | _ => none

/-- An exchange kind (Table 11-5). -/
def kindOf : Nat → Option ExchangeKind
  | 1 => some .read
  | 2 => some .write
  | 3 => some .control
  | 4 => some .sweepRead
  | 5 => some .groupWrite
  | 6 => some .standingRead
  | _ => none

/-- A ready mode (Table 11-5). -/
def readyModeOf : Nat → Option ReadyMode
  | 0 => some .stop
  | 1 => some .repeatBusy
  | 2 => some .skip
  | _ => none

/-- A poll class, 0 to 3. -/
def pollClassOf (n : Nat) : Option (Fin 4) := if h : n < 4 then some ⟨n, h⟩ else none

/-- A service priority, 0 to 7. -/
def priorityOf (n : Nat) : Option (Fin 8) := if h : n < 8 then some ⟨n, h⟩ else none

/-- A slot number, 0 to 31 (R34). -/
def slotOf (n : Nat) : Option SlotIdx := if h : n < 32 then some ⟨n, h⟩ else none

/-- A group byte's value is a group address (R5). -/
def isGroupAddress (b : Byte) : Bool := decide (240 ≤ b.toNat) && decide (b.toNat ≤ 254)

/-- A value is a station address (Table 0-2). -/
def isStationAddress (b : Byte) : Bool := decide (1 ≤ b.toNat) && decide (b.toNat ≤ 239)

/-- The group list four group bytes give (R5): the non-zero bytes in order; none when one of them is no group
address or stands twice. DESIGN CHOICE (log 36): R5's example has the byte 3 in a list, and its next sentence refuses every
non-zero byte outside 240-254; the byte 3 is refused. -/
def groupsOf (w : Word) : Option (List Byte) :=
  let l := [byteOf w 0, byteOf w 1, byteOf w 2, byteOf w 3].filter (· ≠ 0)
  if l.all isGroupAddress && decide l.Nodup then some l else none

/-! ### Parameters (Tables 9-4 and 11-5) -/

/-- A parameter, by the identifier of Table 11-5. -/
def paramExists (id : Nat) : Bool := decide (1 ≤ id) && decide (id ≤ 15)

/-- The value of a parameter, by its identifier (Table 11-5). -/
def Params.get (p : Params) : Nat → Nat
  | 1 => p.pollPeriod0
  | 2 => p.pollPeriod1
  | 3 => p.pollPeriod2
  | 4 => p.pollPeriod3
  | 5 => p.probePeriod
  | 6 => p.replyWindow
  | 7 => p.guardTime
  | 8 => p.repeatInterval
  | 9 => p.retryLimit
  | 10 => p.suspectAt
  | 11 => p.lostAt
  | 12 => p.lineHoldTime
  | 13 => p.spuriousVector
  | 14 => p.rateA
  | 15 => p.rateB
  | _ => 0

/-- Store a parameter, by its identifier (Table 11-5). -/
def Params.put (p : Params) (id v : Nat) : Params :=
  match id with
  | 1 => { p with pollPeriod0 := v }
  | 2 => { p with pollPeriod1 := v }
  | 3 => { p with pollPeriod2 := v }
  | 4 => { p with pollPeriod3 := v }
  | 5 => { p with probePeriod := v }
  | 6 => { p with replyWindow := v }
  | 7 => { p with guardTime := v }
  | 8 => { p with repeatInterval := v }
  | 9 => { p with retryLimit := v }
  | 10 => { p with suspectAt := v }
  | 11 => { p with lostAt := v }
  | 12 => { p with lineHoldTime := v }
  | 13 => { p with spuriousVector := v }
  | 14 => { p with rateA := v }
  | 15 => { p with rateB := v }
  | _ => p

/-- A value lies in a parameter's range (Table 9-4). -/
def paramInRange (id v : Nat) : Bool :=
  match id with
  | 1 | 2 | 3 | 4 | 5 | 8 | 12 => decide (1 ≤ v) && decide (v ≤ 65535)
  | 6 => decide (1 ≤ v) && decide (v ≤ 255)
  | 7 | 13 => decide (v ≤ 255)
  | 9 => decide (v ≤ 7)
  | 10 => decide (1 ≤ v) && decide (v ≤ 14)
  | 11 => decide (2 ≤ v) && decide (v ≤ 15)
  | 14 | 15 => decide (v ≤ 3)
  | _ => false

/-- The trunk whose rate a parameter sets (R185). -/
def rateTrunk : Nat → Option TrunkId
  | 14 => some .a
  | 15 => some .b
  | _ => none

/-! ### Codes as numbers (Tables 11-2, 11-4, 11-8, 11-9, 11-10) -/

/-- 0 for A, 1 for B (section 11.2). -/
def trunkCode : TrunkId → Nat
  | .a => 0
  | .b => 1

/-- Yes is 1 and no is 0 (section 11.2). -/
def flagCode (b : Bool) : Nat := if b then 1 else 0

/-- Table 11-8, station state. -/
def stationStateCode : StationState → Nat
  | .vacant => 0
  | .enrolling => 1
  | .active => 2
  | .suspect => 3
  | .held => 4
  | .lost => 5
  | .recovering => 6
  | .retiring => 7

/-- Table 11-8, trunk state. -/
def trunkStateCode : TrunkState → Nat
  | .disabled => 0
  | .online => 1
  | .test => 2
  | .fault => 3

/-- Table 11-8, last fault. -/
def lastFaultCode : LastFault → Nat
  | .none => 0
  | .noResponse => 1
  | .lineError => 2
  | .trunkDown => 3
  | .resyncRejected => 4

/-- Table 11-9. -/
def completionCodeNumber : CompletionCode → Nat
  | .done => 1
  | .doneSkipped => 2
  | .doneShort => 3
  | .notReady => 4
  | .rejected => 5
  | .noResponse => 6
  | .lineError => 7
  | .sweepLimit => 8
  | .stationLost => 9
  | .trunkFault => 10
  | .retired => 11
  | .cancelled => 12
  | .noMembers => 13
  | .groupPartial => 14

/-- Table 11-10. -/
def resultCodeNumber : ResultCode → Nat
  | .none => 0
  | .ok => 1
  | .badCommand => 2
  | .badArgument => 3
  | .staleHandle => 4
  | .addressInUse => 5
  | .directoryFull => 6
  | .noSuchAddress => 7
  | .stationState => 8
  | .stationLost => 9
  | .stationBusy => 10
  | .inService => 11
  | .order => 12
  | .nothingInService => 13
  | .noFreeSlot => 14
  | .standingLimit => 15
  | .bufferRange => 16
  | .noSuchExchange => 17
  | .notComplete => 18
  | .alreadyComplete => 19
  | .cancelPending => 20
  | .nothingFresh => 21
  | .trunkState => 22
  | .trunkInUse => 23
  | .retiring => 24
  | .retired => 25
  | .pass => 26
  | .fail => 27

/-- Table 11-2, port state. -/
def portStateCode : PortState → Nat
  | .initializing => 0
  | .idle => 1
  | .busy => 2

/-- A command code of Table 11-4. -/
def isCommandCode (n : Nat) : Bool := decide (1 ≤ n) && decide (n ≤ 20)

end Sys2Proof.Machine
end

