-- ==== Sys2Proof/Machine/Frames.lean ====
section
/-! DEFINITION. Frames on a trunk: a character's bits on the line (R148), the check sequence (R151), the bytes of a command
frame (R149), where a reply ends (R156) and how a complete reply is classified (R157). -/

namespace Sys2Proof.Machine

/-! ### Characters on the line (R148) -/

/-- The levels of a character's ten bit times, idle (mark) as true (R148): a start bit at the non-idle level, eight data
bits, least significant first, and a stop bit at the idle level. -/
def characterBits (v : Byte) : List Bool := [false] ++ (List.range 8).map v.getLsbD ++ [true]

/-- The character that ten bit times make (R148): a start bit is at the non-idle level, and a stop bit that is so too makes
a character error. -/
def characterOf : List Bool → Option RxChar
  | [false, b0, b1, b2, b3, b4, b5, b6, b7, stop] =>
    some { value := BitVec.ofBoolListLE [b0, b1, b2, b3, b4, b5, b6, b7], stopOk := stop }
  | _ => none

/-! ### The check sequence (R151) -/

/-- One bit of the check computation, the register held with the bit that leaves first lowest: the polynomial
x^16 + x^12 + x^5 + 1 is then 0x8408 (log 10). -/
def checkBit (reg : BitVec 16) : BitVec 16 :=
  if reg.getLsbD 0 then (reg >>> 1) ^^^ 0x8408#16 else reg >>> 1

/-- One byte enters the computation, least significant bit first (R151). -/
def checkByte (reg : BitVec 16) (b : Byte) : BitVec 16 :=
  (List.range 8).foldl (fun x _ => checkBit x) (reg ^^^ b.setWidth 16)

/-- The check over a run of bytes: the register starts at all ones, and its final value stands as it is (R151). -/
def check (bytes : List Byte) : BitVec 16 := bytes.foldl checkByte 0xFFFF#16

/-- The two check bytes in the order they are sent, low byte first (R151). -/
def checkBytes (bytes : List Byte) : List Byte :=
  [(check bytes).extractLsb' 0 8, (check bytes).extractLsb' 8 8]

/-! ### Command frames (R149, Tables 11-11 and 11-12) -/

/-- The kind field of CTRL (Table 11-12). -/
def frameKindCode : FrameKind → Nat
  | .poll => 1
  | .read => 2
  | .write => 3
  | .control => 4
  | .resync => 5
  | .echo => 6

/-- The CTRL byte: kind in bits 0-2, LAST in bit 6, the toggle in bit 7 (Table 11-12). -/
def ctrlByte (f : Frame) : Byte :=
  BitVec.ofNat 8 (frameKindCode f.kind + 64 * flagCode f.last + 128 * flagCode f.toggle)

/-- The bytes of a frame that its check covers: those after the preamble (R151). -/
def Frame.covered (f : Frame) : List Byte := [f.dest, ctrlByte f, f.sub, f.count] ++ f.payload

/-- Every character of a frame, in the order it goes on the line (R149). -/
def Frame.bytes (f : Frame) : List Byte := 0xC3#8 :: f.covered ++ checkBytes f.covered

/-- The levels a frame puts on the line, bit time by bit time, its characters with no idle time between (R148). -/
def Frame.lineBits (f : Frame) : List Bool := f.bytes.flatMap characterBits

/-- A POLL frame (R113). -/
def pollFrame (addr : Byte) : Frame :=
  { dest := addr, kind := .poll, toggle := false, last := false, sub := 0, count := 0, payload := [] }

/-- A RESYNC frame (R124). -/
def resyncFrame (addr : Byte) : Frame :=
  { dest := addr, kind := .resync, toggle := true, last := false, sub := 0, count := 0, payload := [] }

/-- An ECHO frame (Table 7-2, R167). The spec gives no value for its SUB byte: `sub` is a free value (log 32). -/
def echoFrame (sub : Byte) (payload : List Byte) : Frame :=
  { dest := 0, kind := .echo, toggle := false, last := false, sub := sub, count := BitVec.ofNat 8 payload.length,
    payload := payload }

/-! ### Replies (R150, R155 to R157) -/

/-- The character that begins a reply while the window is open: 0x3C with a correct stop bit (R155). -/
def isReplyPreamble (c : RxChar) : Bool := c.stopOk && decide (c.value = 0x3C#8)

/-- How reception stands after the characters given, which follow the preamble (R156). -/
inductive Reception where
  /-- The reply has not ended. -/
  | more
  /-- The reply ended with its n-th character after the preamble, its second check character. -/
  | complete (n : Nat)
  /-- The reply was marked bad and ended with the 71st character since the preamble. -/
  | badLength
  deriving DecidableEq, Repr

/-- The number of characters after the preamble of a reply whose COUNT character has come without error and is
at most 64 (R156). -/
def replyLength (chars : List RxChar) : Option Nat :=
  match chars[3]? with
  | some c => if c.value.toNat ≤ 64 then some (6 + c.value.toNat) else none
  | none => none

/-- Where a reply ends (R156, ways 1, 3 and 4): complete when the two check characters have come with no
character error and a COUNT of at most 64; otherwise it is marked bad and goes on to the 71st character. -/
def reception (chars : List RxChar) : Reception :=
  let whole : Option Nat :=
    match replyLength chars with
    | some n => if n ≤ chars.length ∧ (chars.take n).all (·.stopOk) then some n else none
    | none => none
  match whole with
  | some n => .complete n
  | none => if 70 ≤ chars.length then .badLength else .more

/-- What the Trunk Controller hands to the block that offered a frame (R158), the abandonment of R165 apart. -/
inductive FrameOutcome where
  | good (code : ReplyCode) (status : Byte) (attn : Bool) (data : List Byte)
  | miss (m : Miss)
  deriving DecidableEq, Repr

/-- The reply code in bits 0-1 of RCTRL; 0 is no reply code (Table 11-12, R197). -/
def replyCodeOf (rctrl : Byte) : Option ReplyCode :=
  match (rctrl.extractLsb' 0 2).toNat with
  | 1 => some .ack
  | 2 => some .busy
  | 3 => some .reject
  | _ => none

/-- The checks of Table 7-3 on COUNT and the echo toggle, by the kind of frame sent. -/
def replyFits (f : Frame) (count : Nat) (echo : Bool) : Bool :=
  match f.kind with
  | .read => decide (count ≤ f.count.toNat) && decide (echo = f.toggle)
  | .write | .control | .resync => decide (count = 0) && decide (echo = f.toggle)
  | .poll => decide (count = 0)
  | .echo => false

/-- Classify a complete reply against the frame in flight (R157); `bytes` are all its bytes after the
preamble. -/
def classify (f : Frame) (bytes : List Byte) : FrameOutcome :=
  let body := bytes.take (bytes.length - 2)
  let src := bytes.getD 0 0
  let rctrl := bytes.getD 1 0
  let status := bytes.getD 2 0
  let count := (bytes.getD 3 0).toNat
  match replyCodeOf rctrl with
  | none => .miss .badReply
  | some code =>
    if bytes.drop (bytes.length - 2) = checkBytes body ∧ src = f.dest ∧ count ≤ 64
        ∧ replyFits f count (rctrl.getLsbD 7) = true then
      .good code status (rctrl.getLsbD 6) (body.drop 4)
    else .miss .badReply

/-- The outcome of a reply that has ended, and how many of the characters given it took (R156, R157). -/
def replyOutcome (f : Frame) (chars : List RxChar) : Option (FrameOutcome × Nat) :=
  match reception chars with
  | .more => none
  | .complete n => some (classify f ((chars.take n).map (·.value)), n)
  | .badLength => some (.miss .badReply, 70)

/-! ### The ECHO test (R167) -/

/-- The reason an ECHO reports: 0 none, 1 no echo, 2 mismatch, 3 check error (section 11.2). -/
structure EchoVerdict where
  code : ResultCode
  reason : Nat
  index : Nat
  deriving DecidableEq, Repr

/-- Character k of those taken matches character k sent; one taken with a character error differs (R167). -/
def echoMatches (sent : List Byte) (taken : List RxChar) (k : Nat) : Bool :=
  match sent[k]?, taken[k]? with
  | some b, some c => c.stopOk && decide (c.value = b)
  | _, _ => false

/-- The result of an ECHO (the table of R167). `sent` has n + 7 characters, of which the last two are the
check. -/
def echoVerdict (sent : List Byte) (taken : List RxChar) : EchoVerdict :=
  if taken = [] then ⟨.fail, 1, 0⟩
  else match (List.range sent.length).find? (fun k => !echoMatches sent taken k) with
    | none => ⟨.pass, 0, 0⟩
    | some k => if k < sent.length - 2 then ⟨.fail, 2, k⟩ else ⟨.fail, 3, k⟩

end Sys2Proof.Machine
end

