-- ==== Sys2Proof/Machine/Ops.lean ====
section
/-! DEFINITION. The named operations over the state: reading and updating records, slots, trunks and lists; timers;
the report of a station change; completions; the entry into LOST, the RESYNC request and the other effects that
several commands share. -/

namespace Sys2Proof.Machine

/-! ### Records, slots and trunks -/

/-- The record at an index. -/
def State.station (s : State) (r : RecIdx) : Station := s.stations[r]

/-- Replace a record. -/
def State.setStation (s : State) (r : RecIdx) (x : Station) : State := { s with stations := s.stations.set r x }

/-- Change fields of a record other than its state and its current trunk. -/
def State.modStation (s : State) (r : RecIdx) (f : Station → Station) : State := s.setStation r (f (s.station r))

/-- The slot at a number. -/
def State.slot (s : State) (n : SlotIdx) : Slot := s.slots[n]

/-- Replace a slot. -/
def State.setSlot (s : State) (n : SlotIdx) (x : Slot) : State := { s with slots := s.slots.set n x }

/-- Change fields of a slot. -/
def State.modSlot (s : State) (n : SlotIdx) (f : Slot → Slot) : State := s.setSlot n (f (s.slot n))

/-- The controller of a trunk. -/
def State.trunk (s : State) : TrunkId → Trunk
  | .a => s.trunkA
  | .b => s.trunkB

/-- Replace a trunk's controller. -/
def State.setTrunk (s : State) (t : TrunkId) (x : Trunk) : State :=
  match t with
  | .a => { s with trunkA := x }
  | .b => { s with trunkB := x }

/-- Change fields of a trunk's controller. -/
def State.modTrunk (s : State) (t : TrunkId) (f : Trunk → Trunk) : State := s.setTrunk t (f (s.trunk t))

/-- The parameters (Table 9-4). -/
def State.params (s : State) : Params := s.port.params

/-- The entry of the address index for an address (R4). -/
def State.indexOf (s : State) (addr : Byte) : Option RecIdx := s.index[addr.toFin]

/-- Set the entry of the address index for an address (R4). -/
def State.setIndex (s : State) (addr : Byte) (e : Option RecIdx) : State :=
  { s with index := s.index.set addr.toFin e }

/-- Every record index, in rising order. -/
def allRecords : List RecIdx := List.finRange 128

/-- Every slot number, in rising order. -/
def allSlots : List SlotIdx := List.finRange 32

/-- The trunk is ONLINE. -/
def State.isOnline (s : State) (t : TrunkId) : Bool := decide ((s.trunk t).state = .online)

/-- The record index of a slot's target, for a station exchange (R35). -/
def Slot.station (x : Slot) : RecIdx := handleIndex x.target

/-! ### Timers (R1) -/

/-- A running timer expires at the present tick boundary: it has counted its last tick (R1). -/
def isDue (t : Timer) : Bool := decide (t = some 0)

/-- Start a timer with N ticks; one of 0 ticks is not running (GUARD_TIME 0, R158; log 31). -/
def startTimer (n : Nat) : Timer := if n = 0 then none else some n

/-- The length a poll timer is started with in a polled state (Table 5-1). -/
def pollLength (p : Params) (x : Station) : Option Nat :=
  match x.state with
  | .active => some (p.get (1 + x.pollClass.val))
  | .suspect => some p.pollPeriod0
  | .lost => some p.probePeriod
  | _ => none

/-- Start or restart a record's poll timer with the length for its state; no effect in a state where the timer is
stopped (R108, R109). -/
def restartPoll (s : State) (r : RecIdx) : State :=
  match pollLength s.params (s.station r) with
  | some n => s.modStation r fun x => { x with pollTimer := startTimer n }
  | none => s

/-! ### Lists -/

/-- A list without an entry; the others keep their order. -/
def without {α : Type} [DecidableEq α] (l : List α) (a : α) : List α := l.filter (· ≠ a)

/-- Append an entry at the tail, unless the list holds it (R111). -/
def joinTail {α : Type} [DecidableEq α] (l : List α) (a : α) : List α := if a ∈ l then l else l ++ [a]

/-- Take a station off the poll-due lists of both trunks. -/
def leavePollDue (s : State) (r : RecIdx) : State :=
  (s.modTrunk .a fun x => { x with pollDue := without x.pollDue r }).modTrunk .b
    fun x => { x with pollDue := without x.pollDue r }

/-- Take a station off the RESYNC lists of both trunks. -/
def leaveResync (s : State) (r : RecIdx) : State :=
  (s.modTrunk .a fun x => { x with resyncList := without x.resyncList r }).modTrunk .b
    fun x => { x with resyncList := without x.resyncList r }

/-- A station joins the tail of a trunk's poll-due list (R110). -/
def joinPollDue (s : State) (t : TrunkId) (r : RecIdx) : State :=
  s.modTrunk t fun x => { x with pollDue := joinTail x.pollDue r }

/-- A station joins the tail of its current trunk's RESYNC list (R124, R127). -/
def joinResync (s : State) (r : RecIdx) : State :=
  s.modTrunk (s.station r).curTrunk fun x => { x with resyncList := joinTail x.resyncList r }

/-- Request a RESYNC for a station, with a fresh resync context (R124): it brings the station's unknown sequence state to a
last executed toggle of 1 before the part sends it a sequenced frame (R153). -/
def requestResync (s : State) (r : RecIdx) : State :=
  joinResync (s.modStation r fun x => { x with resyncRetries := 0, resyncRepeats := 0, resyncWait := none }) r

/-! ### Station changes (R14, R193) -/

/-- Report a change of a record: its change flag is set and its seen mark cleared (R193). -/
def report (s : State) (r : RecIdx) : State :=
  { s with changeFlags := s.changeFlags.set r true, seenMarks := s.seenMarks.set r false }

/-- Change fields of a record; a change of its state, or of its current trunk to another, is reported (R14). -/
def changeStation (s : State) (r : RecIdx) (f : Station → Station) : State :=
  let x := s.station r
  let y := f x
  if x.state ≠ y.state ∨ x.curTrunk ≠ y.curTrunk then report (s.setStation r y) r else s.setStation r y

/-- The record becomes VACANT from an occupied state: its generation is incremented, its address index entry
becomes none, and the change is reported (R3, R4, R18, R31). -/
def vacate (s : State) (r : RecIdx) : State :=
  (changeStation s r fun x =>
    { x with state := .vacant, generation := x.generation + 1, resyncNeeded := false, pollTimer := none }).setIndex
    (s.station r).address none

/-! ### Frames in flight -/

/-- The record a frame was sent to, if it was sent to one station. -/
def ownerRecord : FrameOwner → Option RecIdx
  | .exchange _ r => some r
  | .groupCopy _ => none
  | .poll r => some r
  | .resync r => some r

/-- The slot a frame carries a segment of, or whose copy it is. -/
def ownerSlot : FrameOwner → Option SlotIdx
  | .exchange n _ => some n
  | .groupCopy n => some n
  | _ => none

/-- The owner of the frame in flight on a trunk. -/
def State.flightOwner (s : State) (t : TrunkId) : Option FrameOwner := (s.trunk t).inFlight.map (·.owner)

/-- A frame for the station is in flight on the trunk. -/
def frameTo (s : State) (t : TrunkId) (r : RecIdx) : Bool :=
  match s.flightOwner t with
  | some o => decide (ownerRecord o = some r)
  | none => false

/-- A frame for the station is in flight on either trunk. -/
def frameInFlight (s : State) (r : RecIdx) : Bool := frameTo s .a r || frameTo s .b r

/-- An exchange frame of the slot is in flight on either trunk (R43). -/
def slotInFlight (s : State) (n : SlotIdx) : Bool :=
  let isOf (o : Option FrameOwner) : Bool :=
    match o with
    | some (.exchange m _) => decide (m = n)
    | _ => false
  isOf (s.flightOwner .a) || isOf (s.flightOwner .b)

/-! ### Completion of a slot (R46, R101) -/

/-- A buffer that is FILLING becomes EMPTY (R99, R101). -/
def emptyFilling : Role → Role
  | .filling => .empty
  | r => r

/-- The completion of a slot (R46): the code and the state are set, its timer is stopped, it leaves its queue and
its number enters the completion set. Its segment toggle and segment image are gone (R72, R74), and a FILLING
buffer becomes EMPTY (R101). -/
def completeSlot (s : State) (n : SlotIdx) (c : CompletionCode) : State :=
  let x := s.slot n
  let s := s.setSlot n { x with
    state := .complete, code := some c, timer := none, segToggle := none, image := [],
    role1 := emptyFilling x.role1, role2 := emptyFilling x.role2 }
  let s := { s with completions := s.completions.set n true }
  if x.kind = .groupWrite then { s with groupQueue := without s.groupQueue n }
  else s.modStation x.station fun y => { y with queue := without y.queue n }

/-- Complete each slot of a list with a code, in the order of the list. -/
def completeAll (s : State) : List SlotIdx → (SlotIdx → CompletionCode) → State
  | [], _ => s
  | n :: l, code => completeAll (completeSlot s n (code n)) l code

/-- The slots of a station in STANDING_WAIT, in slot number order (R46, R55). -/
def standingWaitOf (s : State) (r : RecIdx) : List SlotIdx :=
  allSlots.filter fun n =>
    decide ((s.slot n).state = .standingWait) && decide ((s.slot n).station = r)

/-! ### Service (R130 to R136) -/

/-- A station has an entry on the in-service stack. -/
def inService (s : State) (r : RecIdx) : Bool := s.serviceStack.any fun e => decide (e.record = r)

/-- A station stands on a pending list. -/
def isPending (s : State) (r : RecIdx) : Bool := s.serviceLists.toList.any fun l => decide (r ∈ l)

/-- The station leaves every pending list; the others keep their order (R131). -/
def leavePending (s : State) (r : RecIdx) : State :=
  { s with serviceLists := s.serviceLists.map fun l => without l r }

/-- The station joins the tail of the pending list of a priority (R131). -/
def joinPending (s : State) (p : Fin 8) (r : RecIdx) : State :=
  { s with serviceLists := s.serviceLists.set p (s.serviceLists[p] ++ [r]) }

/-- The station's pending request is removed and its coalesce count cleared (R120, R31, R26). -/
def dropRequest (s : State) (r : RecIdx) : State :=
  (leavePending s r).modStation r fun x => { x with coalesce := 0 }

/-- The highest pending priority: the number of the highest non-empty list (R131). -/
def highestPending (s : State) : Option (Fin 8) :=
  ([7, 6, 5, 4, 3, 2, 1, 0] : List (Fin 8)).find? fun p => decide (s.serviceLists[p] ≠ [])

/-- The current level: the priority of the top entry of the in-service stack (R136). -/
def currentLevel (s : State) : Option (Fin 8) := s.serviceStack.head?.map (·.priority)

/-- The SERVICE cause (R136). -/
def serviceActive (s : State) : Bool :=
  match currentLevel s, highestPending s with
  | none, some _ => true
  | some level, some p => decide (level < p)
  | _, none => false

/-- An ATTN is offered to the Service Arbiter: taken from an armed station that is neither LOST nor RETIRING, by
its service condition (R134). -/
def offerAttn (s : State) (r : RecIdx) (attn : Bool) : State :=
  let x := s.station r
  if attn && x.armed && decide (x.state ≠ .lost) && decide (x.state ≠ .retiring) then
    if inService s r then s.modStation r fun y => { y with reRaise := true }
    else if isPending s r then s.modStation r fun y => { y with coalesce := min 255 (y.coalesce + 1) }
    else (joinPending s x.priority r).modStation r fun y => { y with coalesce := 1 }
  else s

/-! ### Entry into LOST (R119, R120) -/

/-- The last fault a deciding miss gives (R10, R117). -/
def missFault : Miss → LastFault
  | .noReply => .noResponse
  | .badReply => .lineError

/-- A station enters LOST (R119, R120). `own` is the slot whose own frame's miss decided it, if one did: with
cancel requested set it completes CANCELLED, every other slot STATION_LOST (R55, R59, R89). -/
def enterLost (s : State) (r : RecIdx) (fault : LastFault) (own : Option SlotIdx) : State :=
  let s := changeStation s r fun x =>
    { x with state := .lost, resyncNeeded := false, lastFault := fault, resyncWait := none,
             pollTimer := startTimer s.params.probePeriod }
  let s := leaveResync (leavePollDue s r) r
  let cancelled := fun n => decide (own = some n) && (s.slot n).cancelRequested
  let s := completeAll s ((s.station r).queue ++ standingWaitOf s r)
    fun n => if cancelled n then .cancelled else .stationLost
  dropRequest (s.modStation r fun x => { x with queue := [] }) r

/-- A slot has left a segment in doubt, and the station's sequence state is unknown: the station is treated by its state
(R76), so that a RESYNC comes before its next sequenced frame (R153). -/
def leaveInDoubt (s : State) (r : RecIdx) : State :=
  match (s.station r).state with
  | .active | .suspect =>
    requestResync (leavePollDue (changeStation s r fun x => { x with state := .recovering, pollTimer := none }) r) r
  | .held => s.modStation r fun x => { x with resyncNeeded := true }
  | _ => s

/-! ### Probe choice (R110) and the other trunk (spec/08) -/

/-- The probe trunk as it stands: the home trunk if ONLINE, else the alternate if there is one and it is ONLINE
(R110). -/
def probeTrunk (s : State) (x : Station) : Option TrunkId :=
  if s.isOnline x.homeTrunk then some x.homeTrunk
  else match x.altTrunk with
    | some t => if s.isOnline t then some t else none
    | none => none

/-- A LOST station joins its probe trunk's poll-due list; with no trunk ONLINE its poll timer is restarted with
PROBE_PERIOD (R110, R173). -/
def chooseProbe (s : State) (r : RecIdx) : State :=
  match probeTrunk s (s.station r) with
  | some t => joinPollDue s t r
  | none => s.modStation r fun x => { x with pollTimer := startTimer s.params.probePeriod }

/-- The other trunk of a station, if it is ONLINE: whichever of its home and alternate trunk is not its current
trunk (spec/08). -/
def usableOther (s : State) (x : Station) : Option TrunkId :=
  let other := if x.curTrunk = x.homeTrunk then x.altTrunk else some x.homeTrunk
  match other with
  | some t => if s.isOnline t then some t else none
  | none => none

/-! ### Group writes (R91 to R93) -/

/-- The condition of a group write's copy for a trunk. -/
def Slot.copy (x : Slot) : TrunkId → CopyState
  | .a => x.copyA
  | .b => x.copyB

/-- Set the condition of a group write's copy for a trunk. -/
def Slot.setCopy (x : Slot) (t : TrunkId) (c : CopyState) : Slot :=
  match t with
  | .a => { x with copyA := c }
  | .b => { x with copyB := c }

/-- A station is a member of the group addressed (R5, R91). -/
def isMember (group : Byte) (x : Station) : Bool := decide (group = 255) || decide (group ∈ x.groups)

/-- A trunk is chosen at a group write's dispatch (R91). -/
def groupChooses (s : State) (group : Byte) (t : TrunkId) : Bool :=
  s.isOnline t && s.stations.toList.any fun x =>
    decide (x.curTrunk = t) && (decide (x.state = .active) || decide (x.state = .suspect)) && isMember group x

/-- The group address of a group write's target (R35). -/
def Slot.group (x : Slot) : Byte := x.target.extractLsb' 0 8

/-- The copy for a trunk as dispatch leaves it. -/
def copyAtDispatch (chosen : Bool) : CopyState := if chosen then .offered else .unused

/-- Dispatch the entries of the group queue from its head on (R91): a head with no trunk chosen completes
NO_MEMBERS and the next is dispatched in turn; the first with a trunk chosen becomes ACTIVE. -/
def dispatchFrom : List SlotIdx → State → State
  | [], s => s
  | n :: rest, s =>
    let x := s.slot n
    if x.state = .queued ∧ x.kind = .groupWrite then
      let toA := groupChooses s x.group .a
      let toB := groupChooses s x.group .b
      if toA || toB then
        s.setSlot n { x with
          state := .active, image := s.buffer.readBytes x.offset x.length,
          copyA := copyAtDispatch toA, copyB := copyAtDispatch toB }
      else dispatchFrom rest (completeSlot s n .noMembers)
    else s

/-- Dispatch the head of the group queue, if it is QUEUED (R91). -/
def dispatchGroups (s : State) : State := dispatchFrom s.groupQueue s

/-- A copy is still to be ended: offered, or being sent (R92). -/
def copyOpen (c : CopyState) : Bool := decide (c = .offered) || decide (c = .sending)

/-- The code a group write completes with when every copy has ended (R93): by the copies sent whole and those
dropped; CANCELLED when cancel requested is set (R60). -/
def groupCode (x : Slot) : CompletionCode :=
  if x.cancelRequested then .cancelled
  else if x.copyA = .sentWhole ∨ x.copyB = .sentWhole then
    if x.copyA = .dropped ∨ x.copyB = .dropped then .groupPartial else .done
  else .trunkFault

/-- Complete an ACTIVE group write whose copies have all ended, and dispatch the next (R93). -/
def settleGroup (s : State) (n : SlotIdx) : State :=
  let x := s.slot n
  if x.state = .active ∧ copyOpen x.copyA = false ∧ copyOpen x.copyB = false then
    dispatchGroups (completeSlot s n (groupCode x))
  else s

/-- A copy has been sent whole: attempts counts it and bytes transferred is the payload (R92, R93; log 23). -/
def groupCopySent (s : State) (n : SlotIdx) (t : TrunkId) : State :=
  settleGroup (s.modSlot n fun x =>
    { x.setCopy t .sentWhole with
      attempts := min 255 (x.attempts + 1), bytesDone := x.length, bytesTransferred := x.length }) n

/-- The copy of the head of the group queue for a trunk that leaves ONLINE is dropped while it is offered or
being sent (R92, R174). -/
def dropCopies (s : State) (t : TrunkId) : State :=
  match s.groupQueue with
  | n :: _ =>
    let x := s.slot n
    if x.state = .active ∧ copyOpen (x.copy t) = true then settleGroup (s.setSlot n (x.setCopy t .dropped)) n else s
  | [] => s

end Sys2Proof.Machine
end

