-- ==== Sys2Proof/Machine/Flags.lean ====
section
/-! DEFINITION. Causes, the interrupt line, and what the host reads of each word of the register window
(spec/10, spec/11). -/

namespace Sys2Proof.Machine

/-! ### Causes and the line (R192 to R195) -/

/-- The cause bits in the order COMPLETION, CHANGE, SERVICE, TRUNK, COMMAND_DONE (Tables 10-1 and 11-2). -/
def causeBits (s : State) : Fin 5 → Bool
  | 0 => s.completions.toList.any id
  | 1 => s.changeFlags.toList.any id
  | 2 => serviceActive s
  | 3 => s.trunkA.eventFlag || s.trunkB.eventFlag
  | 4 => s.port.done

/-- The cause word's five bits (R195). -/
def causeWord (s : State) : BitVec 5 := BitVec.ofFnLE (causeBits s)

/-- The level of the interrupt line: at least one cause is both active and enabled (R195). -/
def lineLevel (s : State) : Bool := decide (causeWord s &&& s.enableMask ≠ 0)

/-- Every event that changes a cause or the mask re-evaluates the line (R195; log 24). -/
def settle (s : State) : State := { s with interruptLine := lineLevel s }

/-! ### The register window (Tables 11-1 and 11-2) -/

/-- The port status word: state, command-done flag, overrun flag. -/
def statusWord (p : Port) : Word := num (portStateCode p.state + 4 * flagCode p.done + 8 * flagCode p.overrun)

/-- The completion set word (R192). -/
def completionWord (s : State) : Word := BitVec.ofFnLE fun i : Fin 32 => s.completions[i]

/-- The record whose flag is bit n of change word k (R193). -/
def changeRecord (k : Fin 4) (n : Fin 32) : RecIdx := ⟨32 * k.val + n.val, by omega⟩

/-- Change word k (R193). -/
def changeWord (s : State) (k : Fin 4) : Word := BitVec.ofFnLE fun n : Fin 32 => s.changeFlags[changeRecord k n]

/-- The trunk event word (R194). -/
def trunkEventWord (s : State) : Word := num (flagCode s.trunkA.eventFlag + 2 * flagCode s.trunkB.eventFlag)

/-- The trunk state word (R197). -/
def trunkStateWord (s : State) : Word :=
  num (trunkStateCode s.trunkA.state + 256 * trunkStateCode s.trunkB.state)

/-- The service-acknowledge word of a winner (Table 11-2, R137). -/
def acknowledgeWord (r : RecIdx) (gen vector : Byte) (count : Nat) : Word :=
  packBytes (BitVec.ofNat 8 r.val) gen vector (BitVec.ofNat 8 count)

/-- The service-acknowledge word of a spurious read: the none flag and SPURIOUS_VECTOR (R138). -/
def spuriousWord (p : Params) : Word := packBytes 0x80 0 (BitVec.ofNat 8 p.spuriousVector) 0

/-- The winner of a service acknowledge: the head of the highest non-empty pending list, with that list's
priority, while the SERVICE cause is active (R137). -/
def serviceWinner (s : State) : Option (Fin 8 × RecIdx) :=
  if serviceActive s then
    match highestPending s with
    | some p => (s.serviceLists[p]).head?.map fun r => (p, r)
    | none => none
  else none

/-- What a read of the service-acknowledge word returns (R137, R138). -/
def serviceWord (s : State) : Word :=
  match serviceWinner s with
  | some (_, r) => acknowledgeWord r (s.station r).generation (s.station r).vector (s.station r).coalesce
  | none => spuriousWord s.params

/-- What a read of a word of the register window returns, by its word offset (Table 11-1); an unassigned word
reads 0 (R188). The effects of reads are in the commands that have them (log 28). -/
def registerView (s : State) (off : Nat) : Word :=
  if h : off < 6 then s.port.args[off]
  else if off = 6 then s.port.command.setWidth 32
  else if off = 7 then num (resultCodeNumber s.port.code)
  else if h : off < 14 then s.port.values[off - 8]'(by omega)
  else if off = 14 then statusWord s.port
  else if off = 15 then 0
  else if off = 16 then serviceWord s
  else if off = 17 then completionWord s
  else if h : off < 22 then changeWord s ⟨off - 18, by omega⟩
  else if off = 22 then trunkEventWord s
  else if off = 23 then (causeWord s).setWidth 32
  else if off = 24 then s.enableMask.setWidth 32
  else if off = 25 then num s.trunkA.strayCount
  else if off = 26 then num s.trunkB.strayCount
  else if off = 27 then trunkStateWord s
  else 0

/-- The addressed bytes of a word, in the low bytes (R188, log 7). -/
def readPart (p : Part) (w : Word) : Word :=
  match p with
  | .word => w
  | .half high => (if high then highHalf w else lowHalf w).setWidth 32
  | .byte n => (byteOf w n.val).setWidth 32

/-- An access of the part reaches bit `k` of the word (R188). -/
def partReaches (p : Part) (k : Nat) : Bool :=
  match p with
  | .word => true
  | .half high => decide (k / 16 = if high then 1 else 0)
  | .byte n => decide (k / 8 = n.val)

/-- The host has read a part of a word: what it returns stands on the bus (log 7). -/
def returned (s : State) (p : Part) (w : Word) : State := { s with busRead := readPart p w }

/-! ### Free values (log 8) -/

/-- A byte with no meaning, and the state that will draw another next time (R23, R63, log 8). -/
def freeByte (s : State) : Byte := Config.freeByte s.freeCount

/-- The next free byte will be another one. -/
def drawn (s : State) : State := { s with freeCount := s.freeCount + 1 }

end Sys2Proof.Machine
end

