-- ==== Sys2Proof/Machine/PortOps.lean ====
section
/-! DEFINITION. The Command Port's own operations: acceptance of a command (R181), its execution and end (R182),
the register writes (R183, R188), and the checks that several commands share (R2, R34). -/

namespace Sys2Proof.Machine

/-- What a command comes to: the state its block leaves, the result code, and the result values from word 0 on
(R182, R184). -/
structure CmdResult where
  state : State
  code : ResultCode
  values : List Word

/-- A command that is refused changes nothing (R182). -/
def refuse (s : State) (c : ResultCode) : CmdResult := ⟨s, c, []⟩

/-- A command carried out with the result OK. -/
def answer (s : State) (values : List Word) : CmdResult := ⟨s, .ok, values⟩

/-- The six result value words: those the command defines, and 0 in the rest (R197). -/
def valueWords (l : List Word) : Vector Word 6 := Vector.ofFn fun i => l.getD i.val 0

/-- The end of a command (R182): the result code and values are written, the command-done flag is set and the
port is IDLE. -/
def finishCommand (c : CmdResult) : State :=
  { c.state with port := { c.state.port with
      state := .idle, code := c.code, values := valueWords c.values, done := true, due := false } }

/-- The execution of the command of this code can begin (R181, R182): the port is BUSY with it, it has not begun, and a tick
boundary has passed since its acceptance. ECHO alone, the command of code 18, begins before that boundary, since the port is
BUSY with it for its transmission and REPLY_WINDOW ticks at most from its acceptance on (R167, log 20). -/
def executing (s : State) (code : Nat) : Bool :=
  decide (s.port.state = .busy) && decide (s.port.command.toNat = code) && decide (s.port.echo = none)
    && (s.port.due || decide (code = 18))

/-- The execution of the accepted command: the block's effect, with the arguments of the snapshot, and the
command's end, in one event (R181, R182). A command the port has not accepted, or whose tick boundary has not passed, does
not run (log 4). -/
def runCommand (code : Nat) (body : Vector Word 6 → State → CmdResult) (s : State) :
    Host.Outcome State Fault Refusal :=
  if executing s code then .next (settle (finishCommand (body s.port.snapshot s))) else .next s

/-- An event that comes about as `t` says, or, where its conditions do not hold (a timer that is not running, no
frame in flight), does not come about and changes nothing (R1, log 5). -/
def occur (t : Option State) (s : State) : Host.Outcome State Fault Refusal :=
  match t with
  | some t => .next (settle t)
  | none => .next s

/-! ### Shared checks -/

/-- The two steps of R2: the record a handle names. -/
def checkHandle (s : State) (h : BitVec 16) : Except ResultCode RecIdx :=
  if handleBit7 h then .error .badArgument
  else
    let x := s.station (handleIndex h)
    if x.state = .vacant ∨ x.generation ≠ handleGeneration h then .error .staleHandle else .ok (handleIndex h)

/-- The two steps of R34: the slot a slot number names. -/
def checkSlot (s : State) (n : Nat) : Except ResultCode SlotIdx :=
  match slotOf n with
  | none => .error .badArgument
  | some n => if (s.slot n).state = .free then .error .noSuchExchange else .ok n

/-! ### Writes of register window words (R180, R181, R183, R188, R190, R193 to R195) -/

/-- Acceptance of a command (R181). -/
def acceptCommand (s : State) (v : Word) : State :=
  { s with port := { s.port with
      snapshot := s.port.args, state := .busy, code := .none, values := Vector.replicate 6 0, done := false,
      command := byteOf v 0, due := false } }

/-- A write of the command word: accepted in IDLE (R181), otherwise ignored, setting the overrun flag (R183). -/
def writeCommandWord (s : State) (v : Word) : State :=
  if s.port.state = .idle then acceptCommand s v else { s with port := { s.port with overrun := true } }

/-- A write of the port status word: the overrun bit written 1 clears the flag (R183). -/
def writeStatusWord (s : State) (v : Word) : State :=
  if v.getLsbD 3 then { s with port := { s.port with overrun := false } } else s

/-- A write of change word k: each flag whose bit is written 1 and whose seen mark is set is cleared, and its
mark with it (R193). -/
def writeChangeWord (s : State) (k : Fin 4) (v : Word) : State :=
  let hit (i : RecIdx) : Bool := decide (i.val / 32 = k.val) && v.getLsbD (i.val % 32) && s.seenMarks[i]
  { s with
    changeFlags := Vector.ofFn fun i => s.changeFlags[i] && !hit i
    seenMarks := Vector.ofFn fun i => s.seenMarks[i] && !hit i }

/-- A write of the trunk event word: each flag whose bit is written 1 is cleared (R194). -/
def writeTrunkEventWord (s : State) (v : Word) : State :=
  (s.modTrunk .a fun x => { x with eventFlag := x.eventFlag && !v.getLsbD 0 }).modTrunk .b
    fun x => { x with eventFlag := x.eventFlag && !v.getLsbD 1 }

/-- A write of the interrupt enable mask replaces it (R195). -/
def writeEnableMask (s : State) (v : Word) : State := { s with enableMask := v.setWidth 5 }

/-- A write of an argument word stores it, whatever the port state (R180, R181). -/
def writeArgument (s : State) (k : Fin 6) (v : Word) : State :=
  { s with port := { s.port with args := s.port.args.set k v } }

/-! ### The reset of every block (R190) -/

/-- A record after controller reset: an occupied one becomes VACANT with its generation advanced; its timers and
lists are those of the blocks' reset states; the other fields keep what they held (R33, R64, R129, R147). -/
def Station.controllerReset (x : Station) : Station :=
  { x with
    state := .vacant, generation := if x.state = .vacant then x.generation else x.generation + 1,
    pollTimer := none, resyncRetries := 0, resyncRepeats := 0, resyncWait := none, queue := [], coalesce := 0,
    reRaise := false }

/-- A slot after controller reset: FREE, its timer stopped, cancel requested no (R64), no segment image (R72). -/
def Slot.controllerReset (x : Slot) : Slot :=
  { x with state := .free, timer := none, cancelRequested := false, image := [] }

/-- A Trunk Controller after controller reset (R129, R168, R196): it keeps its rate, and what its receive input
shows (log 13). -/
def Trunk.controllerReset (x : Trunk) : Trunk :=
  { Trunk.reset with
    rate := x.rate, rxIdle := x.rxIdle, idleFor := x.idleFor, idleNew := x.idleNew, rxHeld := x.rxHeld }

/-- The Command Port after controller reset (R191): IDLE, or still INITIALIZING until the power-on clear ends. -/
def Port.controllerReset (p : Port) : Port :=
  { p with
    state := if p.state = .initializing then .initializing else .idle,
    code := .none, values := Vector.replicate 6 0, done := false, overrun := false,
    snapshot := Vector.replicate 6 0, command := 0, echo := none, due := false }

/-- Controller reset (R190): every block reaches its reset state in one event; buffer memory, the parameters,
the argument words and the interrupt enable mask are kept. -/
def controllerReset (s : State) : State :=
  { s with
    port := s.port.controllerReset
    stations := s.stations.map Station.controllerReset
    index := Vector.replicate 256 none
    slots := s.slots.map Slot.controllerReset
    groupQueue := []
    serviceLists := Vector.replicate 8 []
    serviceStack := []
    trunkA := s.trunkA.controllerReset
    trunkB := s.trunkB.controllerReset
    completions := Vector.replicate 32 false
    changeFlags := Vector.replicate 128 false
    seenMarks := Vector.replicate 128 false }

/-- A write of the controller-reset word: a reset when its least significant bit is 1, else ignored (R190). -/
def writeResetWord (s : State) (v : Word) : State := if v.getLsbD 0 then controllerReset s else s

/-- A whole-word write of a word of the register window, by its word offset (Table 11-1); a write of a read-only
or unassigned word is ignored (R188, R192, R195, R197). -/
def writeRegister (s : State) (off : Nat) (v : Word) : State :=
  if h : off < 6 then writeArgument s ⟨off, h⟩ v
  else if off = 6 then writeCommandWord s v
  else if off = 14 then writeStatusWord s v
  else if off = 15 then writeResetWord s v
  else if h : 18 ≤ off ∧ off < 22 then writeChangeWord s ⟨off - 18, by omega⟩ v
  else if off = 22 then writeTrunkEventWord s v
  else if off = 24 then writeEnableMask s v
  else s

end Sys2Proof.Machine
end

