-- ==== Sys2Proof/Machine/Exchange.lean ====
section
/-! DEFINITION. The Exchange Engine and the Poll Scheduler at the end of a frame: segments (spec/03), the cycles of
a standing read (spec/04), misses and good replies in a station's liveness (spec/05), and the end of a RETIRING
record's frame (R18). -/

namespace Sys2Proof.Machine

/-! ### Segments (R68 to R71) -/

/-- The size of a segment that is not the last: 64 bytes, a sweep's segment size, or the whole of a CONTROL or a
group write (Table 3-2). -/
def Slot.unit (x : Slot) : Nat :=
  match x.kind with
  | .read | .write | .standingRead => 64
  | .sweepRead => x.segmentSize
  | .control | .groupWrite => x.length

/-- The size of the current segment (R68 to R70). -/
def Slot.segLen (x : Slot) : Nat := min x.unit (x.length - x.bytesDone)

/-- The current segment is the exchange's last. -/
def Slot.lastSegment (x : Slot) : Bool := decide (x.length ≤ x.bytesDone + x.segLen)

/-- The buffer an exchange's data lies in: for a standing read the one that is FILLING (R73, R97). -/
def Slot.dataOffset (x : Slot) : Nat :=
  if x.kind = .standingRead ∧ x.role1 ≠ .filling then x.offset2 else x.offset

/-- The frames of the slot are READ frames (Table 3-1). -/
def Slot.isRead (x : Slot) : Bool :=
  match x.kind with
  | .read | .sweepRead | .standingRead => true
  | .write | .control | .groupWrite => false

/-- The end of a segment by a full ACK or a skip, `bytesDone` already counting it (R80): the code the exchange
completes with, or none when it has moved to its next segment. -/
def endSegment (x : Slot) : Slot × Option CompletionCode :=
  let x := { x with segToggle := none }
  if x.length ≤ x.bytesDone then (x, some (if x.skipped = 0 then .done else .doneSkipped))
  else if x.kind = .sweepRead ∧ x.curSub = 255 then (x, some .sweepLimit)
  else
    ({ x with
        curSegment := x.curSegment + 1, curSub := if x.kind = .sweepRead then x.curSub + 1 else x.curSub,
        retries := 0, repeats := 0, pendingStep := .first }, none)

/-- An accepted ACK (R78, R79), `count` its reply count: a full ACK ends the segment; a short one to a READ
frame completes the exchange DONE_SHORT (log 23). -/
def ackStep (x : Slot) (count : Nat) : Slot × Option CompletionCode :=
  if x.isRead && decide (count < x.segLen) then
    ({ x with bytesTransferred := x.bytesTransferred + count }, some .doneShort)
  else
    endSegment { x with bytesDone := x.bytesDone + x.segLen, bytesTransferred := x.bytesTransferred + x.segLen }

/-- A BUSY reply, by ready mode (R81, R82, R84). -/
def busyStep (repeatInterval : Nat) (x : Slot) : Slot × Option CompletionCode :=
  match x.readyMode with
  | .stop => (x, some .notReady)
  | .repeatBusy =>
    if x.repeats < x.repeatLimit then
      ({ x with state := .repeatWait, timer := startTimer repeatInterval, pendingStep := .again }, none)
    else (x, some .notReady)
  | .skip => endSegment { x with skipped := x.skipped + 1, bytesDone := x.bytesDone + x.segLen }

/-- The code a REJECT reply completes the exchange with (R85). -/
def rejectCode (x : Slot) : CompletionCode := if x.kind = .sweepRead then .doneShort else .rejected

/-- The code of an exchange whose retries are exhausted: the last miss decides (R86). -/
def missCode : Miss → CompletionCode
  | .noReply => .noResponse
  | .badReply => .lineError

/-! ### The cycles of a standing read (R95 to R99) -/

/-- A role a cycle may take as its target without an overrun (R96). -/
def roleOpen (r : Role) : Bool := decide (r = .empty) || decide (r = .seen)

/-- The target of a cycle is the first buffer (the table of R96). -/
def targetFirst (r1 r2 : Role) : Bool :=
  if roleOpen r1 && roleOpen r2 then !(decide (r1 = .seen) && decide (r2 = .empty))
  else if roleOpen r1 then true
  else if roleOpen r2 then false
  else decide (r1 = .fresh)

/-- The start of a cycle (R95, R96): the progress fields take their SUBMIT values, and the target buffer becomes
FILLING; an overrun is counted when it was FRESH. -/
def startCycle (x : Slot) : Slot :=
  let first := targetFirst x.role1 x.role2
  let taken := if first then x.role1 else x.role2
  { x with
    bytesDone := 0, bytesTransferred := 0, curSegment := 0, curSub := x.subAddress, retries := 0, repeats := 0,
    attempts := 0, skipped := 0,
    role1 := if first then .filling else x.role1, role2 := if first then x.role2 else .filling,
    overruns := if taken = .fresh then min 65535 (x.overruns + 1) else x.overruns }

/-- The role a successful cycle end gives (R98, steps 1 and 2). -/
def roleAtSuccess : Role → Role
  | .filling => .fresh
  | .fresh => .seen
  | r => r

/-- The successful end of a cycle, steps 1 to 3 of R98. -/
def succeedCycle (x : Slot) : Slot :=
  let c := x.cycles + 1
  { x with
    role1 := roleAtSuccess x.role1, role2 := roleAtSuccess x.role2, cycles := c,
    fill1 := if x.role1 = .filling then c else x.fill1, fill2 := if x.role2 = .filling then c else x.fill2 }

/-- The end of a failed cycle, steps 1 and 2 of R99. -/
def failCycle (x : Slot) : Slot :=
  { x with
    role1 := emptyFilling x.role1, role2 := emptyFilling x.role2, cycleMisses := min 65535 (x.cycleMisses + 1) }

/-- The slot leaves its station queue and enters STANDING_WAIT with its period timer started (R98 step 4, R99
step 3). -/
def restCycle (s : State) (n : SlotIdx) (x : Slot) : State :=
  (s.setSlot n { x with
      state := .standingWait, timer := startTimer x.period, segToggle := none, image := [],
      pendingStep := .first }).modStation x.station fun y => { y with queue := without y.queue n }

/-- The exchange in a slot has come to the end the code names. A standing read's cycle ends instead, successfully
for DONE, else as a failed cycle; the read goes on (R98, R99). -/
def finishExchange (s : State) (n : SlotIdx) (c : CompletionCode) : State :=
  let x := s.slot n
  if x.kind = .standingRead then restCycle s n (if c = .done then succeedCycle x else failCycle x)
  else completeSlot s n c

/-- The end of a slot whose exchange may not go on, at an accepted ACK whose own code is `c` (none when segments
are left): that code, or `instead` when the ACK completes nothing (R18, R59). A standing read takes the
successful end of its cycle, if the ACK gives it, and completes with `instead` (R98, R101, logs 15
and 16). -/
def closeAtAck (s : State) (n : SlotIdx) (c : Option CompletionCode) (instead : CompletionCode) : State :=
  let x := s.slot n
  match c with
  | none => completeSlot s n instead
  | some c =>
    if x.kind = .standingRead then
      completeSlot (if c = .done then s.setSlot n (succeedCycle x) else s) n instead
    else completeSlot s n c

/-! ### Good replies and misses in a station's liveness (R109, R114 to R118) -/

/-- A good reply's effects on the record (R9, R11, R67, R109, R118): the miss count is 0, last status is the
reply's, a SUSPECT station is ACTIVE, and the poll timer is restarted. -/
def applyGood (s : State) (r : RecIdx) (status : Byte) : State :=
  restartPoll (changeStation s r fun x =>
    { x with missCount := 0, lastStatus := some status,
             state := if x.state = .suspect then .active else x.state }) r

/-- A miss's effects on the record (R9, R116): the count is incremented and compared with LOST_AT and SUSPECT_AT.
`own` is the slot whose frame the miss ended, if it was an exchange frame. -/
def applyMiss (s : State) (r : RecIdx) (m : Miss) (own : Option SlotIdx) : State :=
  let s := s.modStation r fun x => { x with missCount := min 15 (x.missCount + 1) }
  let x := s.station r
  match x.state with
  | .active =>
    if s.params.lostAt ≤ x.missCount then enterLost s r (missFault m) own
    else if s.params.suspectAt ≤ x.missCount then
      restartPoll (changeStation s r fun y => { y with state := .suspect, lastFault := missFault m }) r
    else s
  | .suspect | .held => if s.params.lostAt ≤ x.missCount then enterLost s r (missFault m) own else s
  | _ => s

/-! ### The end of an exchange frame (R67) -/

/-- The data of an accepted ACK to a READ frame is written to buffer memory (R73). -/
def storeData (s : State) (x : Slot) (data : List Byte) : State :=
  if x.isRead then { s with buffer := s.buffer.writeBytes (x.dataOffset + x.bytesDone) data } else s

/-- An accepted ACK stores its data and counts the segment (R73, R78, R79); the code is the one the ACK gives. Where
segments are left the slot moves to the next (R80). It does so too where R18 or R59 then completes it CANCELLED or RETIRED:
these rules name bytes transferred and no such move, so that bytes done, current segment, current sub-address, retries and
repeats of that slot are the model's choice (DESIGN CHOICE, log 35). -/
def takeAck (s : State) (n : SlotIdx) (data : List Byte) : State × Option CompletionCode :=
  let x := s.slot n
  let y := ackStep x data.length
  ((storeData s x data).setSlot n y.1, y.2)

/-- The slot's step at a good reply (R59, R78 to R85). -/
def slotGood (s : State) (n : SlotIdx) (code : ReplyCode) (data : List Byte) : State :=
  let x := s.slot n
  if x.state ≠ .active then s
  else match code with
    | .ack =>
      let (s, c) := takeAck s n data
      if x.cancelRequested then closeAtAck s n c .cancelled
      else match c with
        | some c => finishExchange s n c
        | none => s
    | .busy =>
      if x.cancelRequested then completeSlot s n .cancelled
      else
        let (y, c) := busyStep s.params.repeatInterval x
        let s := s.setSlot n y
        match c with
        | some c => finishExchange s n c
        | none => s
    | .reject =>
      if x.cancelRequested then completeSlot s n .cancelled else finishExchange s n (rejectCode x)

/-- The slot's step at a miss that has not taken its station to LOST (R59, R76, R86). A slot the entry into LOST
has completed is no longer ACTIVE. -/
def slotMiss (s : State) (n : SlotIdx) (r : RecIdx) (m : Miss) : State :=
  let x := s.slot n
  if x.state ≠ .active then s
  else if x.cancelRequested then leaveInDoubt (completeSlot s n .cancelled) r
  else if x.retries < s.params.retryLimit then s.setSlot n { x with pendingStep := .retry m }
  else leaveInDoubt (finishExchange s n (missCode m)) r

/-- The code a slot completes with when its station is RETIRING and the frame's end completes nothing (R18). -/
def retiringCode (x : Slot) : CompletionCode := if x.cancelRequested then .cancelled else .retired

/-- The slot at the end of the exchange frame a RETIRING record waits for (R18): it completes, an accepted ACK's
data stored and counted; its last status is set by a good reply (R39). -/
def retiringSlot (s : State) (n : SlotIdx) (o : FrameOutcome) : State :=
  let x := s.slot n
  if x.state ≠ .active then s
  else match o with
    | .good .ack status _ data =>
      let (s, c) := takeAck (s.setSlot n { x with lastStatus := some status }) n data
      closeAtAck s n c (retiringCode x)
    | .good _ status _ _ => completeSlot (s.setSlot n { x with lastStatus := some status }) n (retiringCode x)
    | .miss _ => completeSlot s n (retiringCode x)

/-- The end of an exchange frame with a reply or a miss (R67; log 18). -/
def exchangeEnd (s : State) (n : SlotIdx) (r : RecIdx) (o : FrameOutcome) : State :=
  match (s.station r).state with
  | .vacant => s
  | .retiring => vacate (retiringSlot s n o) r
  | _ =>
    match o with
    | .good code status attn data =>
      let s := applyGood s r status
      let s := s.modSlot n fun x => { x with lastStatus := some status }
      let s := if code = .ack then s.modStation r fun x => { x with nextToggle := !x.nextToggle } else s
      offerAttn (slotGood s n code data) r attn
    | .miss m => slotMiss (applyMiss s r m (some n)) n r m

/-! ### The end of a POLL or a probe (R114, R123) -/

/-- A good reply to a probe takes its LOST station to RECOVERING on the trunk the probe was sent on (R123). -/
def recoverByProbe (s : State) (t : TrunkId) (r : RecIdx) (status : Byte) : State :=
  requestResync (leavePollDue (changeStation s r fun x =>
    { x with missCount := 0, lastStatus := some status, curTrunk := t, state := .recovering, pollTimer := none }) r) r

/-- The end of a poll attempt (R114): its outcome, and the restart of the poll timer. -/
def pollEnd (s : State) (t : TrunkId) (r : RecIdx) (o : FrameOutcome) : State :=
  match (s.station r).state with
  | .vacant => s
  | .retiring => vacate s r
  | .lost =>
    match o with
    | .good _ status attn _ => offerAttn (recoverByProbe s t r status) r attn
    | .miss m => restartPoll (applyMiss s r m none) r
  | _ =>
    match o with
    | .good _ status attn _ => offerAttn (applyGood s r status) r attn
    | .miss m => restartPoll (applyMiss s r m none) r

/-! ### The end of a RESYNC (R77, R126, R127) -/

/-- The head slot of the station's queue is examined at the RESYNC ACK (the table of R77). -/
def headAtResync (s : State) (r : RecIdx) : State :=
  match (s.station r).queue.head? with
  | none => s
  | some n =>
    let x := s.slot n
    match x.state, x.pendingStep with
    | .active, .retry m => finishExchange s n (missCode m)
    | .active, .again => s.setSlot n { x with segToggle := none }
    | .repeatWait, _ => s.setSlot n { x with segToggle := none }
    | _, _ => s

/-- An accepted ACK to a RESYNC (R126): the station's last executed toggle is 1 and the record's next toggle 0, and only now
may it be sent sequenced frames (R77, R153). -/
def resyncAck (s : State) (r : RecIdx) (status : Byte) (attn : Bool) : State :=
  let s := changeStation s r fun x =>
    { x with
      nextToggle := false, missCount := 0, lastStatus := some status, state := .active, lastFault := .none,
      resyncNeeded := false }
  offerAttn (headAtResync (restartPoll s r) r) r attn

/-- A BUSY reply to a RESYNC (R127). -/
def resyncBusy (s : State) (r : RecIdx) (status : Byte) (attn : Bool) : State :=
  let s := applyGood s r status
  let x := s.station r
  let s :=
    if x.resyncRepeats < s.params.retryLimit then
      s.modStation r fun y =>
        { y with resyncRepeats := y.resyncRepeats + 1, resyncWait := startTimer s.params.repeatInterval }
    else enterLost s r .noResponse none
  offerAttn s r attn

/-- A REJECT reply to a RESYNC (R127). -/
def resyncReject (s : State) (r : RecIdx) (status : Byte) (attn : Bool) : State :=
  offerAttn (enterLost (applyGood s r status) r .resyncRejected none) r attn

/-- A miss of a RESYNC (R127). -/
def resyncMiss (s : State) (r : RecIdx) (m : Miss) : State :=
  let s := applyMiss s r m none
  let x := s.station r
  if x.resyncRetries < s.params.retryLimit then
    joinResync (s.modStation r fun y => { y with resyncRetries := y.resyncRetries + 1 }) r
  else enterLost s r (missFault m) none

/-- The end of a RESYNC frame with a reply or a miss (R126, R127): the procedure belongs to ENROLLING and
RECOVERING (log 18). -/
def resyncEnd (s : State) (r : RecIdx) (o : FrameOutcome) : State :=
  match (s.station r).state with
  | .vacant | .active | .suspect | .held | .lost => s
  | .retiring => vacate s r
  | .enrolling | .recovering =>
    match o with
    | .good .ack status attn _ => resyncAck s r status attn
    | .good .busy status attn _ => resyncBusy s r status attn
    | .good .reject status attn _ => resyncReject s r status attn
    | .miss m => resyncMiss s r m

/-! ### The end of a frame in flight (R158) -/

/-- The outcome is delivered to the block that offered the frame (R158). A group copy has no outcome. -/
def deliver (s : State) (t : TrunkId) (o : FrameOwner) (out : FrameOutcome) : State :=
  match o with
  | .exchange n r => exchangeEnd s n r out
  | .poll r => pollEnd s t r out
  | .resync r => resyncEnd s r out
  | .groupCopy _ => s

/-- A reply is being received on the trunk (R155, R156). -/
def Trunk.receiving (x : Trunk) : Bool :=
  match x.inFlight with
  | some f => decide (f.phase = .receiving)
  | none => false

/-- The frame is no longer in flight and the guard timer is started with GUARD_TIME (R158). A reply that ends does so with
a character's end or in a gap, so that no character is then being received (R156). -/
def clearFlight (s : State) (t : TrunkId) : State :=
  s.modTrunk t fun x =>
    { x with
      inFlight := none, replyTimer := none, guardTimer := startTimer s.params.guardTime
      rxChar := x.rxChar && !x.receiving }

/-- The end of the frame in flight on a trunk (R158). -/
def endFrame (s : State) (t : TrunkId) (o : FrameOwner) (out : FrameOutcome) : State :=
  deliver (clearFlight s t) t o out

end Sys2Proof.Machine
end

