-- ==== Sys2Proof/Machine/Trunks.lean ====
section
/-! DEFINITION. The Trunk Controllers: the arbiter and the frames it sends (R65, R66, R160, R161), characters
received (R155, R159), the end of transmission (R154), the departure from ONLINE with failover (R165, R169 to
R174), and the loopback of the ECHO test (R167). -/

namespace Sys2Proof.Machine

/-! ### Offers (R65, R112, R160) -/

/-- The head slot of a station's queue offers a frame (R65): it is QUEUED or ACTIVE, and cancel requested is no.
That it is between frames is the fourth condition of R65, no frame for the station in flight. -/
def headOffers (s : State) (r : RecIdx) : Option SlotIdx :=
  match (s.station r).queue.head? with
  | some n =>
    let x := s.slot n
    if (x.state = .queued ∨ x.state = .active) ∧ x.cancelRequested = false then some n else none
  | none => none

/-- The offer of a station on its current trunk (R65, R160). It offers in ACTIVE and SUSPECT alone, which a station whose
sequence state is unknown enters through a RESYNC (R153). -/
def stationOffers (s : State) (t : TrunkId) (r : RecIdx) : Option FrameOwner :=
  let x := s.station r
  if x.curTrunk = t ∧ (x.state = .active ∨ x.state = .suspect) ∧ frameInFlight s r = false then
    (headOffers s r).map fun n => .exchange n r
  else none

/-- The record indices in the rotation's order: from the index after the last served on, wrapping from 127 to
0 (R160). -/
def rotation (last : RecIdx) : List RecIdx :=
  (List.range 128).map fun k => ⟨(last.val + 1 + k) % 128, Nat.mod_lt _ (by decide)⟩

/-- The link source's offer (R112): the first station on the RESYNC list with no frame in flight, else the first
such on the poll-due list. -/
def linkOffers (s : State) (t : TrunkId) : Option FrameOwner :=
  match (s.trunk t).resyncList.find? fun r => !frameInFlight s r with
  | some r => some (.resync r)
  | none => ((s.trunk t).pollDue.find? fun r => !frameInFlight s r).map .poll

/-- The group source's offer (R160): the copy, still offered, of the ACTIVE group write at the head of the group
queue. -/
def groupOffers (s : State) (t : TrunkId) : Option FrameOwner :=
  match s.groupQueue.head? with
  | some n => if (s.slot n).state = .active ∧ (s.slot n).copy t = .offered then some (.groupCopy n) else none
  | none => none

/-- A source's offer (R160). -/
def sourceOffer (s : State) (t : TrunkId) : Source → Option FrameOwner
  | .station => (rotation (s.trunk t).lastServed).findSome? (stationOffers s t)
  | .group => groupOffers s t
  | .link => linkOffers s t

/-- The trunk is ONLINE and free: no frame in flight, its guard timer not running (R161). -/
def trunkFree (s : State) (t : TrunkId) : Bool :=
  let x := s.trunk t
  decide (x.state = .online) && x.inFlight.isNone && x.guardTimer.isNone

/-- The arbiter's choice (R161): on a free trunk, the source with an offer that was served least recently. -/
def arbiterChoice (s : State) (t : TrunkId) : Option (Source × FrameOwner) :=
  if trunkFree s t then (s.trunk t).order.findSome? fun src => (sourceOffer s t src).map fun o => (src, o)
  else none

/-! ### Sending (R66, R92, R113, R124) -/

/-- The frame becomes the frame in flight and transmission begins; the line-hold timer stops, and the receive input is
not examined while it lasts (R148, R154, R163). -/
def beginFrame (s : State) (t : TrunkId) (o : FrameOwner) (f : Frame) : State :=
  s.modTrunk t fun x =>
    { x with inFlight := some { owner := o, frame := f, phase := .transmitting }, lineHold := none, rxChar := false }

/-- The kind of a slot's frames (Table 3-1). -/
def exchangeFrameKind : ExchangeKind → FrameKind
  | .read | .sweepRead | .standingRead => .read
  | .write | .groupWrite => .write
  | .control => .control

/-- The LAST flag of the current segment's frame (Table 3-1). -/
def Slot.lastFlag (x : Slot) : Bool :=
  match x.kind with
  | .read | .write | .standingRead => x.lastSegment
  | .sweepRead | .control | .groupWrite => true

/-- The frame of the slot's current segment (Table 3-1). -/
def exchangeFrame (addr : Byte) (toggle : Bool) (x : Slot) : Frame :=
  { dest := addr, kind := exchangeFrameKind x.kind, toggle := toggle, last := x.lastFlag, sub := x.curSub,
    count := BitVec.ofNat 8 x.segLen, payload := if x.isRead then [] else x.image }

/-- The toggle a frame carries (R74): the record's next toggle for a first frame, and for a repeat whose segment
toggle a RESYNC took away (R77); else the segment toggle. -/
def sendToggle (x : Slot) (next : Bool) : Bool :=
  match x.pendingStep with
  | .first => next
  | _ => x.segToggle.getD next

/-- The slot as the taking of its offer makes it (R66): attempts, retries used and repeats used, the segment
toggle, and for the first frame of a WRITE or CONTROL segment the segment image read from `buffer` (R72). -/
def slotAtSend (buffer : Memory) (next : Bool) (x : Slot) : Slot :=
  { x with
    state := .active
    attempts := min 255 (x.attempts + 1)
    retries := match x.pendingStep with | .retry _ => x.retries + 1 | _ => x.retries
    repeats := match x.pendingStep with | .again => x.repeats + 1 | _ => x.repeats
    segToggle := some (sendToggle x next)
    image :=
      match x.pendingStep with
      | .first => if x.isRead then [] else buffer.readBytes (x.offset + x.bytesDone) x.segLen
      | _ => x.image }

/-- The trunk takes a slot's offer (R66); a standing read's cycle starts first when the slot is QUEUED (R95). -/
def sendExchange (s : State) (t : TrunkId) (n : SlotIdx) (r : RecIdx) : State :=
  let x := s.slot n
  let y := s.station r
  let x := if x.kind = .standingRead ∧ x.state = .queued then startCycle x else x
  let z := slotAtSend s.buffer y.nextToggle x
  beginFrame (s.setSlot n z) t (.exchange n r) (exchangeFrame y.address (sendToggle x y.nextToggle) z)

/-- The trunk takes the copy of a group write (R92). -/
def sendCopy (s : State) (t : TrunkId) (n : SlotIdx) : State :=
  let x := s.slot n
  beginFrame (s.setSlot n (x.setCopy t .sending)) t (.groupCopy n)
    { dest := x.group, kind := .write, toggle := false, last := true, sub := x.subAddress,
      count := BitVec.ofNat 8 x.length, payload := x.image }

/-- The trunk takes a frame from a source: it is built and sent, and a link frame's station leaves the trunk's
list (R66, R92, R113, R124). -/
def sendFrame (s : State) (t : TrunkId) : FrameOwner → State
  | .exchange n r => sendExchange s t n r
  | .groupCopy n => sendCopy s t n
  | .poll r =>
    beginFrame (s.modTrunk t fun x => { x with pollDue := without x.pollDue r }) t (.poll r)
      (pollFrame (s.station r).address)
  | .resync r =>
    beginFrame (s.modTrunk t fun x => { x with resyncList := without x.resyncList r }) t (.resync r)
      (resyncFrame (s.station r).address)

/-- The chosen source moves to the most recent place, and a station served becomes the last served (R161). -/
def markServed (s : State) (t : TrunkId) (src : Source) (o : FrameOwner) : State :=
  s.modTrunk t fun x =>
    { x with
      order := without x.order src ++ [src]
      lastServed := match o with | .exchange _ r => r | _ => x.lastServed }

/-! ### The end of transmission (R154, R163, R167) -/

/-- When driver-enable is released, the line-hold timer starts if the input is at the non-idle level (R163). -/
def startLineHold (s : State) (t : TrunkId) : State :=
  if (s.trunk t).rxIdle then s
  else s.modTrunk t fun x => { x with lineHold := startTimer s.params.lineHoldTime }

/-- The end of the transmission of the frame in flight (R154): a frame that expects a reply opens the reply
window; a group copy has been sent whole. -/
def endTransmission (s : State) (t : TrunkId) (f : InFlight) : State :=
  let s := startLineHold s t
  match f.owner with
  | .groupCopy n => groupCopySent (clearFlight s t) n t
  | _ =>
    s.modTrunk t fun x =>
      { x with inFlight := some { f with phase := .window }, replyTimer := startTimer s.params.replyWindow }

/-! ### Characters received (R155, R159) -/

/-- Stray bytes are counted, the count staying at 65535 (R159). -/
def countStray (s : State) (t : TrunkId) (k : Nat) : State :=
  s.modTrunk t fun x => { x with strayCount := min 65535 (x.strayCount + k) }

/-- A character ends on the trunk's line: none is being received any more (R148). -/
def endCharacter (s : State) (t : TrunkId) : State := s.modTrunk t fun x => { x with rxChar := false }

/-- The character being received, if any, ends as a character error, which is a stray byte; the line, if it is at the
non-idle level, gives no further one until it returns to idle (R148, R163). -/
def cutCharacter (s : State) (t : TrunkId) : State :=
  if (s.trunk t).rxChar then
    (countStray (endCharacter s t) t 1).modTrunk t fun x => { x with rxHeld := x.rxHeld || !x.rxIdle }
  else s

/-- A character received while no reply is being received (R155, R159): in the open window a preamble begins the
reply; while the trunk transmits, or in TEST, the line is not examined; everywhere else the character is a stray
byte. -/
def receiveOutside (s : State) (t : TrunkId) (c : RxChar) : State :=
  match (s.trunk t).inFlight with
  | none => if (s.trunk t).state = .test then s else countStray (endCharacter s t) t 1
  | some f =>
    match f.phase with
    | .transmitting | .receiving => s
    | .window =>
      if isReplyPreamble c then
        (endCharacter s t).modTrunk t fun x =>
          { x with inFlight := some { f with phase := .receiving, reply := [] }, replyTimer := none }
      else countStray (endCharacter s t) t 1

/-- Characters of the reply being received (R156 to R158): with those taken before they end the frame in flight, those
beyond the reply's end being stray bytes; or the reply has not ended and holds them. -/
def continueReply (s : State) (t : TrunkId) (f : InFlight) (chars : List RxChar) : State :=
  match replyOutcome f.frame (f.reply ++ chars) with
  | some (o, k) => countStray (endFrame s t f.owner o) t (f.reply.length + chars.length - k)
  | none => (endCharacter s t).modTrunk t fun x => { x with inFlight := some { f with reply := f.reply ++ chars } }

/-- Characters taken on a trunk, one after the other (R155, R156, R159; log 11). -/
def takeCharacters (t : TrunkId) : List RxChar → State → State
  | [], s => s
  | c :: rest, s =>
    match (s.trunk t).inFlight with
    | some f =>
      if f.phase = .receiving then continueReply s t f (c :: rest) else takeCharacters t rest (receiveOutside s t c)
    | none => takeCharacters t rest (receiveOutside s t c)

/-- The trunk is transmitting a frame, and asserts driver-enable (R148). -/
def Trunk.driverEnable (x : Trunk) : Bool :=
  match x.inFlight with
  | some f => decide (f.phase = .transmitting)
  | none => false

/-- The receive input is examined: neither while driver-enable is asserted (R148), nor in TEST (R166). -/
def Trunk.listens (x : Trunk) : Bool := !x.driverEnable && !(decide (x.state = .test) && x.inFlight.isNone)

/-- The characters of a series that a line gives (R148), by whether its level is idle: held at the non-idle level it
gives those up to the first character error, and then no further ones. -/
def heard (idle : Bool) : List RxChar → List RxChar
  | [] => []
  | c :: rest => if idle || c.stopOk then c :: heard idle rest else [c]

/-- A series of characters leaves the line held (R148): one of them is a character error, and the level is not idle. -/
def holdsLine (idle : Bool) (chars : List RxChar) : Bool := !idle && chars.any fun c => !c.stopOk

/-- Characters arrive on a trunk's line (R148, R155, R156, R159): those that the line gives and the trunk examines are
taken, and a character error among them on a line at the non-idle level leaves it held. -/
def receive (t : TrunkId) (chars : List RxChar) (s : State) : State :=
  let x := s.trunk t
  if x.listens && !x.rxHeld then
    (takeCharacters t (heard x.rxIdle chars) s).modTrunk t fun y => { y with rxHeld := holdsLine x.rxIdle chars }
  else s

/-! ### The departure from ONLINE (R165, R169 to R174) -/

/-- The frame in flight is abandoned (R170). A group copy is dropped with the others of its trunk (R174). -/
def abandonFrame (s : State) : FrameOwner → State
  | .exchange n r =>
    let s := if (s.slot n).state = .active then completeSlot s n .trunkFault else s
    if (s.station r).state = .retiring then vacate s r else s
  | .poll r => if (s.station r).state = .retiring then vacate s r else s
  | .resync r => if (s.station r).state = .retiring then vacate s r else s
  | .groupCopy _ => s

/-- A station in ENROLLING, ACTIVE, SUSPECT or RECOVERING fails over to its usable other trunk (R171). -/
def failOver (s : State) (r : RecIdx) (t : TrunkId) : State :=
  requestResync (leaveResync (leavePollDue (changeStation s r fun x =>
    { x with curTrunk := t, state := .recovering, pollTimer := none }) r) r) r

/-- A HELD station moves to its usable other trunk and stays HELD (R172). -/
def failOverHeld (s : State) (r : RecIdx) (t : TrunkId) : State :=
  changeStation s r fun x => { x with curTrunk := t, resyncNeeded := true }

/-- The treatment of one station at the loss of a trunk (Table 8-1). `reprobe` says that it is a station whose
probe was abandoned, or that waited on the lost trunk's poll-due list (R173). -/
def treatStation (s : State) (t : TrunkId) (reprobe : Bool) (r : RecIdx) : State :=
  let x := s.station r
  match x.state with
  | .vacant | .retiring => s
  | .lost => if reprobe then chooseProbe s r else s
  | .held =>
    if x.curTrunk = t then
      match usableOther s x with
      | some u => failOverHeld s r u
      | none => enterLost s r .trunkDown none
    else s
  | .enrolling | .active | .suspect | .recovering =>
    if x.curTrunk = t then
      match usableOther s x with
      | some u => failOver s r u
      | none => enterLost s r .trunkDown none
    else s

/-- The stations are treated one by one, in increasing record index (R169, step 4). -/
def treatStations (s : State) (t : TrunkId) (reprobe : RecIdx → Bool) : List RecIdx → State
  | [] => s
  | r :: l => treatStations (treatStation s t (reprobe r) r) t reprobe l

/-- The characters taken of the reply being received, its preamble among them: at an abandonment they are stray bytes
(R165). -/
def Trunk.replyTaken (x : Trunk) : Nat :=
  match x.inFlight with
  | some f => if f.phase = .receiving then 1 + f.reply.length else 0
  | none => 0

/-- The departure of a trunk from ONLINE to the state given (R165, R169): its timers stop, the bytes of a reply being
received become stray (log 21), the frame in flight is abandoned, the group copy dropped, the link lists emptied, and the
stations treated (log 29). -/
def leaveOnline (s : State) (t : TrunkId) (dest : TrunkState) : State :=
  let flight := s.flightOwner t
  let due := (s.trunk t).pollDue
  let s := s.modTrunk t fun x =>
    { x with
      state := dest, inFlight := none, replyTimer := none, guardTimer := none, lineHold := none, rxChar := false
      strayCount := min 65535 (x.strayCount + x.replyTaken) }
  let s := match flight with | some o => abandonFrame s o | none => s
  let s := dropCopies s t
  let s := s.modTrunk t fun x => { x with resyncList := [], pollDue := [] }
  treatStations s t (fun r => decide (flight = some (.poll r)) || decide (r ∈ due)) allRecords

/-- The trunk's event flag is set as it enters FAULT (R162, R163, R194). -/
def setEvent (s : State) (t : TrunkId) : State := s.modTrunk t fun x => { x with eventFlag := true }

/-! ### The line's idle history (R162, log 12) -/

/-- Two character times at a rate, in units of 1.25 us (Table 7-1). -/
def twoCharacters (rate : Nat) : Nat :=
  match rate with
  | 0 => 128
  | 1 => 32
  | 2 => 8
  | _ => 2

/-- The receive input has been idle for at least the last two character times at the rate (R162). -/
def lineQuiet (x : Trunk) (rate : Nat) : Bool := x.rxIdle && decide (twoCharacters rate ≤ x.idleFor)

/-- The rate parameter of a trunk (R148). -/
def rateParam (p : Params) : TrunkId → Nat
  | .a => p.rateA
  | .b => p.rateB

/-- The trunk reads its rate as it enters ONLINE, TEST or FAULT (R148). -/
def readRate (s : State) (t : TrunkId) : State :=
  s.modTrunk t fun x => { x with rate := Fin.ofNat 4 (rateParam s.params t) }

/-! ### The end of an ECHO (R167) -/

/-- The ECHO stops listening: its result is written and the command ends (R167, R182). -/
def finishEcho (s : State) (e : EchoTest) : State :=
  let v := echoVerdict e.sent e.taken
  finishCommand ⟨{ s with port := { s.port with echo := none } }, v.code, [num v.reason, num v.index]⟩

end Sys2Proof.Machine
end

