-- ==== Sys2Proof/Machine/Directory.lean ====
section
/-! DEFINITION. The directory commands ENROL, FIND, INSPECT, MODIFY, HOLD, RESUME, RETIRE (spec/01) and MOVE
(spec/08). -/

namespace Sys2Proof.Machine

/-! ### ENROL (R19 to R21) -/

/-- The arguments of an ENROL, decoded (Table 11-3). -/
structure EnrolArgs where
  address : Byte
  home : TrunkId
  alt : Option TrunkId
  pollClass : Fin 4
  groups : List Byte
  priority : Fin 8
  vector : Byte
  armed : Bool

/-- The VACANT record with the lowest index (R20). -/
def lowestVacant (s : State) : Option RecIdx := allRecords.find? fun r => decide ((s.station r).state = .vacant)

/-- The six checks of R19, in order. -/
def checkEnrol (a : Vector Word 6) (s : State) : Except ResultCode (RecIdx × EnrolArgs) :=
  let addr := byteOf a[0] 0
  if !isStationAddress addr then .error .badArgument
  else if s.indexOf addr ≠ none then .error .addressInUse
  else match trunkOf (field a[0] 1), altTrunkOf (field a[0] 2) with
    | some home, some alt =>
      if alt = some home then .error .badArgument
      else match groupsOf a[2] with
        | none => .error .badArgument
        | some groups =>
          match pollClassOf (field a[0] 3), priorityOf (field a[1] 0), yesNoOf (field a[1] 2) with
          | some pollClass, some priority, some armed =>
            match lowestVacant s with
            | none => .error .directoryFull
            | some r => .ok (r, ⟨addr, home, alt, pollClass, groups, priority, byteOf a[1] 1, armed⟩)
          | _, _, _ => .error .badArgument
    | _, _ => .error .badArgument

/-- The trunk an ENROL chooses as current trunk, if the home or the alternate trunk is ONLINE (R21). -/
def enrolTrunk (s : State) (e : EnrolArgs) : Option TrunkId :=
  if s.isOnline e.home then some e.home
  else match e.alt with
    | some t => if s.isOnline t then some t else none
    | none => none

/-- The record as ENROL fills it (Table 1-1), in the state and on the trunk given. -/
def enrolledStation (e : EnrolArgs) (st : StationState) (cur : TrunkId) (fault : LastFault) (poll : Timer)
    (x : Station) : Station :=
  { x with
    address := e.address, state := st, homeTrunk := e.home, altTrunk := e.alt, curTrunk := cur,
    pollClass := e.pollClass, groups := e.groups, priority := e.priority, vector := e.vector, armed := e.armed,
    nextToggle := false, missCount := 0, lastFault := fault, lastStatus := none, resyncNeeded := false,
    pollTimer := poll, resyncRetries := 0, resyncRepeats := 0, resyncWait := none, queue := [] }

/-- The effect of an ENROL that passes its checks (R20, R21): a RESYNC is requested before any frame that carries a sequence
toggle is sent to the station (R153). -/
def enrolStation (s : State) (r : RecIdx) (e : EnrolArgs) : State :=
  let s := s.setIndex e.address (some r)
  match enrolTrunk s e with
  | some t => requestResync (changeStation s r (enrolledStation e .enrolling t .none none)) r
  | none =>
    changeStation s r (enrolledStation e .lost e.home .trunkDown (startTimer s.params.probePeriod))

/-- ENROL against the directory (R19 to R21). -/
def enrolBody (a : Vector Word 6) (s : State) : CmdResult :=
  match checkEnrol a s with
  | .error c => refuse s c
  | .ok (r, e) =>
    let t := enrolStation s r e
    answer t [(handleOf r (t.station r).generation).setWidth 32, num (stationStateCode (t.station r).state)]

/-- ENROL (R19, R20, R21). -/
def execEnrol (s : State) : Host.Outcome State Fault Refusal := runCommand 1 enrolBody s

/-! ### FIND (R22) -/

/-- FIND against the directory (R22). -/
def findBody (a : Vector Word 6) (s : State) : CmdResult :=
  let addr := byteOf a[0] 0
  if !isStationAddress addr then refuse s .badArgument
  else match s.indexOf addr with
    | none => refuse s .noSuchAddress
    | some r =>
      answer s [(handleOf r (s.station r).generation).setWidth 32, num (stationStateCode (s.station r).state)]

/-- FIND (R22). -/
def execFind (s : State) : Host.Outcome State Fault Refusal := runCommand 2 findBody s

/-! ### INSPECT (R23) -/

/-- The result values of INSPECT (Table 11-6). `altByte` and `statusByte` stand where the alternate trunk or the
last status is absent. -/
def inspectWords (r : RecIdx) (x : Station) (altByte statusByte : Byte) : List Word :=
  let alt := match x.altTrunk with | some t => BitVec.ofNat 8 (trunkCode t) | none => altByte
  let status := x.lastStatus.getD statusByte
  let flags := flagCode x.altTrunk.isSome + 2 * flagCode x.lastStatus.isSome + 4 * flagCode x.armed
    + 8 * flagCode x.resyncNeeded + 16 * flagCode x.nextToggle
  [ packBytes x.address (BitVec.ofNat 8 (stationStateCode x.state)) (BitVec.ofNat 8 (trunkCode x.homeTrunk))
      (BitVec.ofNat 8 (trunkCode x.curTrunk)),
    packBytes alt (BitVec.ofNat 8 flags) (BitVec.ofNat 8 x.pollClass.val) (BitVec.ofNat 8 x.priority.val),
    packBytes x.vector (BitVec.ofNat 8 x.missCount) (BitVec.ofNat 8 (lastFaultCode x.lastFault)) status,
    packBytes (BitVec.ofNat 8 x.groups.length) (BitVec.ofNat 8 x.queue.length) 0 0,
    packBytes (x.groups.getD 0 0) (x.groups.getD 1 0) (x.groups.getD 2 0) (x.groups.getD 3 0),
    (handleOf r x.generation).setWidth 32 ]

/-- INSPECT against the directory (R23). -/
def inspectBody (a : Vector Word 6) (s : State) : CmdResult :=
  match checkHandle s (lowHalf a[0]) with
  | .error c => refuse s c
  | .ok r => answer (drawn (drawn s)) (inspectWords r (s.station r) (freeByte s) (freeByte (drawn s)))

/-- INSPECT (R23). -/
def execInspect (s : State) : Host.Outcome State Fault Refusal := runCommand 3 inspectBody s

/-! ### MODIFY (R24 to R27) -/

/-- The new values of the fields a MODIFY selects; none for a field not selected (R24). -/
structure ModifyArgs where
  pollClass : Option (Fin 4)
  groups : Option (List Byte)
  priority : Option (Fin 8)
  vector : Option Byte
  armed : Option Bool
  alt : Option (Option TrunkId)

/-- A selected field's value, decoded: `some none` when the field is not selected, `none` when it is selected and
out of range. -/
def selected {α : Type} (mask : Byte) (bit : Nat) (v : Option α) : Option (Option α) :=
  if mask.getLsbD bit then v.map some else some none

/-- The fields a MODIFY selects, decoded; none when one of them is out of range (R24, check 4). -/
def modifyArgs (a : Vector Word 6) (mask : Byte) (home : TrunkId) : Option ModifyArgs :=
  let alt := (altTrunkOf (field a[2] 0)).filter fun t => decide (t ≠ some home)
  match selected mask 0 (pollClassOf (field a[1] 0)), selected mask 1 (groupsOf a[3]),
      selected mask 2 (priorityOf (field a[1] 1)), selected mask 4 (yesNoOf (field a[1] 3)),
      selected mask 5 alt with
  | some pollClass, some groups, some priority, some armed, some alt =>
    some ⟨pollClass, groups, priority, if mask.getLsbD 3 then some (byteOf a[1] 2) else none, armed, alt⟩
  | _, _, _, _, _ => none

/-- The alternate trunk is in use (R24, check 5): it is the current trunk, or a probe of the station waits on its
poll-due list or is in flight on it (log 30). -/
def altInUse (s : State) (r : RecIdx) : Bool :=
  let x := s.station r
  match x.altTrunk with
  | none => false
  | some t =>
    decide (x.curTrunk = t) || decide (r ∈ (s.trunk t).pollDue) || decide (s.flightOwner t = some (.poll r))

/-- The checks of R24, in order. -/
def checkModify (a : Vector Word 6) (s : State) : Except ResultCode (RecIdx × ModifyArgs) :=
  match checkHandle s (lowHalf a[0]) with
  | .error c => .error c
  | .ok r =>
    let x := s.station r
    let mask := byteOf a[0] 2
    if x.state = .retiring then .error .stationState
    else if mask.extractLsb' 0 6 = 0 then .error .badArgument
    else match modifyArgs a mask x.homeTrunk with
      | none => .error .badArgument
      | some m =>
        if m.alt.any (fun t => decide (t ≠ x.altTrunk)) && altInUse s r then .error .trunkInUse
        else .ok (r, m)

/-- A change of service priority of a pending station moves its request to the new list's tail (R26). -/
def movePriority (s : State) (r : RecIdx) (p : Fin 8) : State :=
  let moved := (s.station r).priority ≠ p ∧ isPending s r = true
  let s := s.modStation r fun x => { x with priority := p }
  if moved then joinPending (leavePending s r) p r else s

/-- A change of armed from yes to no removes the pending request and clears the count and the re-raise flag
(R26). -/
def setArmed (s : State) (r : RecIdx) (b : Bool) : State :=
  let disarm := (s.station r).armed && !b
  let s := s.modStation r fun x => { x with armed := b }
  if disarm then (dropRequest s r).modStation r fun x => { x with reRaise := false } else s

/-- The effect of a MODIFY that passes its checks (R24 to R27). -/
def modifyStation (s : State) (r : RecIdx) (m : ModifyArgs) : State :=
  let s := s.modStation r fun x =>
    { x with
      pollClass := m.pollClass.getD x.pollClass, groups := m.groups.getD x.groups,
      vector := m.vector.getD x.vector, altTrunk := m.alt.getD x.altTrunk }
  let s := match m.priority with | some p => movePriority s r p | none => s
  match m.armed with | some b => setArmed s r b | none => s

/-- MODIFY against the directory (R24 to R27). -/
def modifyBody (a : Vector Word 6) (s : State) : CmdResult :=
  match checkModify a s with
  | .error c => refuse s c
  | .ok (r, m) => answer (modifyStation s r m) []

/-- MODIFY (R24, R25, R26, R27). -/
def execModify (s : State) : Host.Outcome State Fault Refusal := runCommand 4 modifyBody s

/-! ### HOLD and RESUME (R28, R29) -/

/-- The effect of an accepted HOLD (R28). -/
def holdStation (s : State) (r : RecIdx) : State :=
  leavePollDue (changeStation s r fun x =>
    { x with state := .held, pollTimer := none, resyncNeeded := false }) r

/-- HOLD against the directory (R28). -/
def holdBody (a : Vector Word 6) (s : State) : CmdResult :=
  match checkHandle s (lowHalf a[0]) with
  | .error c => refuse s c
  | .ok r =>
    if (s.station r).state = .active ∨ (s.station r).state = .suspect then answer (holdStation s r) []
    else refuse s .stationState

/-- HOLD (R28). -/
def execHold (s : State) : Host.Outcome State Fault Refusal := runCommand 5 holdBody s

/-- The state RESUME chooses (the table of R29). -/
def resumeState (s : State) (x : Station) : StationState :=
  if x.resyncNeeded then .recovering
  else if x.missCount < s.params.suspectAt then .active else .suspect

/-- The effect of an accepted RESUME (R29). -/
def resumeStation (s : State) (r : RecIdx) : State :=
  let st := resumeState s (s.station r)
  let s := changeStation s r fun x => { x with state := st, resyncNeeded := false }
  if st = .recovering then requestResync s r else restartPoll s r

/-- RESUME against the directory (R29). -/
def resumeBody (a : Vector Word 6) (s : State) : CmdResult :=
  match checkHandle s (lowHalf a[0]) with
  | .error c => refuse s c
  | .ok r =>
    if (s.station r).state = .held then
      answer (resumeStation s r) [num (stationStateCode (resumeState s (s.station r)))]
    else refuse s .stationState

/-- RESUME (R29). -/
def execResume (s : State) : Host.Outcome State Fault Refusal := runCommand 6 resumeBody s

/-! ### RETIRE (R30, R31) -/

/-- The slots a RETIRE completes (R31, steps 1 and 2): those of the queue with no frame in flight, then those in
STANDING_WAIT. -/
def retireSlots (s : State) (r : RecIdx) : List SlotIdx :=
  ((s.station r).queue.filter fun n => !slotInFlight s n) ++ standingWaitOf s r

/-- The effect of an accepted RETIRE (R31), less the record's fate. -/
def clearStation (s : State) (r : RecIdx) : State :=
  let s := completeAll s (retireSlots s r) fun _ => .retired
  let s := (dropRequest s r).modStation r fun x =>
    { x with reRaise := false, pollTimer := none, resyncWait := none }
  leaveResync (leavePollDue s r) r

/-- RETIRE against the directory (R30, R31). -/
def retireBody (a : Vector Word 6) (s : State) : CmdResult :=
  match checkHandle s (lowHalf a[0]) with
  | .error c => refuse s c
  | .ok r =>
    if (s.station r).state = .retiring then refuse s .stationState
    else if inService s r then refuse s .inService
    else
      let count := num (retireSlots s r).length
      if frameInFlight s r then
        ⟨changeStation (clearStation s r) r fun x => { x with state := .retiring, resyncNeeded := false },
          .retiring, [count]⟩
      else ⟨vacate (clearStation s r) r, .retired, [count]⟩

/-- RETIRE (R30, R31). -/
def execRetire (s : State) : Host.Outcome State Fault Refusal := runCommand 7 retireBody s

/-! ### MOVE (R177, R178) -/

/-- The checks of R177, in order; `ok none` when the target equals the current trunk and nothing changes. -/
def checkMove (a : Vector Word 6) (s : State) : Except ResultCode (RecIdx × Option TrunkId) :=
  match checkHandle s (lowHalf a[0]) with
  | .error c => .error c
  | .ok r =>
    match trunkOf (field a[0] 2) with
    | none => .error .badArgument
    | some t =>
      let x := s.station r
      if ¬(x.state = .active ∨ x.state = .suspect ∨ x.state = .held) then .error .stationState
      else if t = x.curTrunk then .ok (r, none)
      else if t ≠ x.homeTrunk ∧ some t ≠ x.altTrunk then .error .trunkState
      else if !s.isOnline t then .error .trunkState
      else if frameInFlight s r then .error .stationBusy
      else .ok (r, some t)

/-- The effect of a MOVE to another trunk (R178). -/
def moveStation (s : State) (r : RecIdx) (t : TrunkId) : State :=
  if (s.station r).state = .held then
    changeStation s r fun x => { x with curTrunk := t, resyncNeeded := true }
  else
    requestResync (leavePollDue (changeStation s r fun x =>
      { x with curTrunk := t, state := .recovering, pollTimer := none }) r) r

/-- MOVE against the directory and the Poll Scheduler (R177, R178). -/
def moveBody (a : Vector Word 6) (s : State) : CmdResult :=
  match checkMove a s with
  | .error c => refuse s c
  | .ok (r, none) => answer s [num (stationStateCode (s.station r).state)]
  | .ok (r, some t) =>
    let s := moveStation s r t
    answer s [num (stationStateCode (s.station r).state)]

/-- MOVE (R177, R178). -/
def execMove (s : State) : Host.Outcome State Fault Refusal := runCommand 8 moveBody s

end Sys2Proof.Machine
end

