-- ==== Sys2Proof/Machine/ExchangeCommands.lean ====
section
/-! DEFINITION. The exchange commands SUBMIT, CANCEL, COLLECT (spec/02), CLAIM and UNCLAIM (spec/04). -/

namespace Sys2Proof.Machine

/-! ### SUBMIT (R47 to R52) -/

/-- The arguments of a SUBMIT as they stand in the argument words (Table 11-3). -/
structure SubmitArgs where
  kind : Nat
  readyMode : Nat
  repeatLimit : Nat
  sub : Byte
  target : BitVec 16
  tag : BitVec 16
  length : Nat
  segmentSize : Nat
  offset : Nat
  offset2 : Nat
  period : Nat

/-- The fields of a SUBMIT's argument words (Table 11-3). -/
def submitArgs (a : Vector Word 6) : SubmitArgs :=
  { kind := field a[0] 0, readyMode := field a[0] 1, repeatLimit := field a[0] 2, sub := byteOf a[0] 3,
    target := lowHalf a[1], tag := highHalf a[1], length := (lowHalf a[2]).toNat, segmentSize := field a[2] 2,
    offset := (lowHalf a[3]).toNat, offset2 := (highHalf a[3]).toNat, period := (lowHalf a[4]).toNat }

/-- The second and third checks (R49): the target, and the state of the station it names. -/
def checkTarget (s : State) (k : ExchangeKind) (target : BitVec 16) : Except ResultCode Unit :=
  if k = .groupWrite then
    if 240 ≤ target.toNat ∧ target.toNat ≤ 255 then .ok () else .error .badArgument
  else match checkHandle s target with
    | .error c => .error c
    | .ok r =>
      if (s.station r).state = .lost then .error .stationLost
      else if (s.station r).state = .retiring then .error .stationState
      else .ok ()

/-- A length lies in its kind's column of Table 2-4. -/
def lengthOk (k : ExchangeKind) (n : Nat) : Bool :=
  match k with
  | .read | .write | .sweepRead | .standingRead => decide (1 ≤ n) && decide (n ≤ 1024)
  | .control => decide (n ≤ 64)
  | .groupWrite => decide (1 ≤ n) && decide (n ≤ 64)

/-- The ready mode a kind is submitted with (R36, R50): STOP for a group write, whatever the argument; for a
standing read STOP alone; for the others any of the three. -/
def submitMode (k : ExchangeKind) (m : Nat) : Option ReadyMode :=
  match k with
  | .groupWrite => some .stop
  | .standingRead => if m = 0 then some .stop else none
  | _ => readyModeOf m

/-- The fourth check (R47, R50): the values of Table 2-4. -/
def valuesOk (k : ExchangeKind) (e : SubmitArgs) : Bool :=
  lengthOk k e.length
    && (decide (k ≠ .sweepRead) || (decide (1 ≤ e.segmentSize) && decide (e.segmentSize ≤ 64)))
    && (match submitMode k e.readyMode with
        | none => false
        | some m => decide (m ≠ .repeatBusy) || decide (1 ≤ e.repeatLimit))
    && (decide (k ≠ .standingRead) || decide (1 ≤ e.period))

/-- A range of buffer memory passes the fifth check (R50). -/
def rangeOk (offset length : Nat) : Bool :=
  decide (offset % 4 = 0) && decide (offset ≤ 16380) && decide (offset + length ≤ bufferSize)

/-- The fifth check (R50). -/
def buffersOk (k : ExchangeKind) (e : SubmitArgs) : Bool :=
  rangeOk e.offset e.length
    && (decide (k ≠ .standingRead)
        || (rangeOk e.offset2 e.length
            && (decide (e.offset + e.length ≤ e.offset2) || decide (e.offset2 + e.length ≤ e.offset))))

/-- The number of slots that hold a standing read, COMPLETE ones included (R51). -/
def standingCount (s : State) : Nat :=
  (allSlots.filter fun n =>
    decide ((s.slot n).kind = .standingRead) && decide ((s.slot n).state ≠ .free)).length

/-- The FREE slot with the lowest number (R52). -/
def lowestFree (s : State) : Option SlotIdx := allSlots.find? fun n => decide ((s.slot n).state = .free)

/-- The seven checks of R48, in order: the slot taken and the kind. -/
def checkSubmit (e : SubmitArgs) (s : State) : Except ResultCode (SlotIdx × ExchangeKind) :=
  match kindOf e.kind with
  | none => .error .badArgument
  | some k =>
    match checkTarget s k e.target with
    | .error c => .error c
    | .ok _ =>
      if !valuesOk k e then .error .badArgument
      else if !buffersOk k e then .error .bufferRange
      else if k = .standingRead ∧ 8 ≤ standingCount s then .error .standingLimit
      else match lowestFree s with
        | none => .error .noFreeSlot
        | some n => .ok (n, k)

/-- The slot as SUBMIT fills it (R36, R52, R94). -/
def submittedSlot (k : ExchangeKind) (e : SubmitArgs) : Slot :=
  let mode := (submitMode k e.readyMode).getD .stop
  { Slot.reset with
    state := .queued, kind := k, target := e.target, subAddress := e.sub, offset := e.offset
    offset2 := if k = .standingRead then e.offset2 else e.offset
    length := e.length
    segmentSize := if k = .sweepRead then e.segmentSize else 0
    readyMode := mode
    repeatLimit := if mode = .repeatBusy then e.repeatLimit else 0
    period := if k = .standingRead then e.period else 0
    tag := e.tag, curSub := e.sub }

/-- The slot joins the tail of its queue: the group queue, whose head is then dispatched if it is QUEUED (R91),
or its station's queue (R52). -/
def enqueueSlot (s : State) (n : SlotIdx) : State :=
  let x := s.slot n
  if x.kind = .groupWrite then dispatchGroups { s with groupQueue := s.groupQueue ++ [n] }
  else s.modStation x.station fun y => { y with queue := y.queue ++ [n] }

/-- The number of entries ahead of a slot about to join its queue (R52). -/
def entriesAhead (s : State) (x : Slot) : Nat :=
  if x.kind = .groupWrite then s.groupQueue.length else (s.station x.station).queue.length

/-- SUBMIT against the Exchange Engine (R48 to R52). -/
def submitBody (a : Vector Word 6) (s : State) : CmdResult :=
  let e := submitArgs a
  match checkSubmit e s with
  | .error c => refuse s c
  | .ok (n, k) =>
    let x := submittedSlot k e
    answer (enqueueSlot (s.setSlot n x) n) [num n.val, num (entriesAhead s x)]

/-- SUBMIT (R48, R49, R50, R51, R52). -/
def execSubmit (s : State) : Host.Outcome State Fault Refusal := runCommand 9 submitBody s

/-! ### CANCEL (R57 to R60) -/

/-- A copy not yet begun is withdrawn (R60). -/
def withdrawCopy (c : CopyState) : CopyState := if c = .offered then .withdrawn else c

/-- CANCEL of an ACTIVE group write (R60). -/
def cancelGroup (s : State) (n : SlotIdx) : CmdResult :=
  let x := s.slot n
  let y := { x with copyA := withdrawCopy x.copyA, copyB := withdrawCopy x.copyB }
  if x.copyA = .sending ∨ x.copyB = .sending then
    ⟨s.setSlot n { y with cancelRequested := true }, .cancelPending, []⟩
  else answer (dispatchGroups (completeSlot (s.setSlot n y) n .cancelled)) []

/-- A station exchange's CANCEL with no frame in flight leaves a segment in doubt exactly when a retry was
pending (R58, R76). -/
def retryPending (x : Slot) : Bool :=
  match x.pendingStep with
  | .retry _ => decide (x.state = .active)
  | _ => false

/-- CANCEL of a station exchange (R58, R59). -/
def cancelExchange (s : State) (n : SlotIdx) : CmdResult :=
  let x := s.slot n
  if slotInFlight s n then ⟨s.modSlot n fun y => { y with cancelRequested := true }, .cancelPending, []⟩
  else
    let t := completeSlot s n .cancelled
    answer (if retryPending x then leaveInDoubt t x.station else t) []

/-- CANCEL against the Exchange Engine (R57 to R60). -/
def cancelBody (a : Vector Word 6) (s : State) : CmdResult :=
  match checkSlot s (field a[0] 0) with
  | .error c => refuse s c
  | .ok n =>
    let x := s.slot n
    if x.state = .complete then refuse s .alreadyComplete
    else if x.kind = .groupWrite then
      if x.state = .active then cancelGroup s n
      else answer (dispatchGroups (completeSlot s n .cancelled)) []
    else cancelExchange s n

/-- CANCEL (R57, R58, R59, R60). -/
def execCancel (s : State) : Host.Outcome State Fault Refusal := runCommand 10 cancelBody s

/-! ### COLLECT (R62, R63) -/

/-- The completion code as a number; 0 while the slot holds none (R39). -/
def codeNumber (x : Slot) : Nat :=
  match x.code with
  | some c => completionCodeNumber c
  | none => 0

/-- The result record (Table 11-7). `statusByte` stands where the last status is absent. -/
def resultRecord (n : SlotIdx) (x : Slot) (statusByte : Byte) : List Word :=
  let standing := decide (x.kind = .standingRead)
  [ halves (n.val + 256 * codeNumber x) x.tag.toNat,
    halves x.bytesTransferred x.skipped,
    packBytes (BitVec.ofNat 8 x.attempts) (x.lastStatus.getD statusByte) (BitVec.ofNat 8 (flagCode x.lastStatus.isSome)) 0,
    if standing then halves x.cycles.toNat x.cycleMisses else 0,
    if standing then halves x.overruns 0 else 0,
    0 ]

/-- The effect of a COLLECT (R62): the slot leaves the completion set and becomes FREE. -/
def collectSlot (s : State) (n : SlotIdx) : State :=
  { s.modSlot n (fun x => { x with state := .free }) with completions := s.completions.set n false }

/-- COLLECT against the Exchange Engine (R62, R63). -/
def collectBody (a : Vector Word 6) (s : State) : CmdResult :=
  match checkSlot s (field a[0] 0) with
  | .error c => refuse s c
  | .ok n =>
    if (s.slot n).state = .complete then answer (drawn (collectSlot s n)) (resultRecord n (s.slot n) (freeByte s))
    else refuse s .notComplete

/-- COLLECT (R62, R63). -/
def execCollect (s : State) : Host.Outcome State Fault Refusal := runCommand 11 collectBody s

/-! ### CLAIM and UNCLAIM (R102, R103) -/

/-- The checks CLAIM and UNCLAIM share (R102, R103). -/
def checkStanding (a : Vector Word 6) (s : State) : Except ResultCode SlotIdx :=
  match checkSlot s (field a[0] 0) with
  | .error c => .error c
  | .ok n =>
    if (s.slot n).kind ≠ .standingRead then .error .badArgument
    else if (s.slot n).state = .complete then .error .alreadyComplete
    else .ok n

/-- A buffer the host holds is released (R102, R103). -/
def releaseRole : Role → Role
  | .heldByHost => .seen
  | r => r

/-- Any buffer of the slot that the host holds is released. -/
def releaseHeld (x : Slot) : Slot := { x with role1 := releaseRole x.role1, role2 := releaseRole x.role2 }

/-- CLAIM against the Exchange Engine (R102). -/
def claimBody (a : Vector Word 6) (s : State) : CmdResult :=
  match checkStanding a s with
  | .error c => refuse s c
  | .ok n =>
    let x := releaseHeld (s.slot n)
    if x.role1 = .fresh then
      answer (s.setSlot n { x with role1 := .heldByHost }) [num x.offset, x.fill1.setWidth 32, num x.overruns]
    else if x.role2 = .fresh then
      answer (s.setSlot n { x with role2 := .heldByHost }) [num x.offset2, x.fill2.setWidth 32, num x.overruns]
    else ⟨s.setSlot n x, .nothingFresh, []⟩

/-- CLAIM (R102). -/
def execClaim (s : State) : Host.Outcome State Fault Refusal := runCommand 12 claimBody s

/-- UNCLAIM against the Exchange Engine (R103). -/
def unclaimBody (a : Vector Word 6) (s : State) : CmdResult :=
  match checkStanding a s with
  | .error c => refuse s c
  | .ok n =>
    let x := s.slot n
    let held := decide (x.role1 = .heldByHost) || decide (x.role2 = .heldByHost)
    answer (s.setSlot n (releaseHeld x)) [num (flagCode held)]

/-- UNCLAIM (R103). -/
def execUnclaim (s : State) : Host.Outcome State Fault Refusal := runCommand 13 unclaimBody s

end Sys2Proof.Machine
end

