-- ==== Sys2Proof/Machine/HostAccess.lean ====
section
/-! DEFINITION. The parameter commands, the refusal of an unknown command code, and the host's accesses of the
register window and of the buffer window (spec/09, spec/10). -/

namespace Sys2Proof.Machine

/-! ### SET_PARAM, GET_PARAM, BAD_COMMAND (R182, R185, R186) -/

/-- SUSPECT_AT stays below LOST_AT (R185, check 3). -/
def thresholdOk (p : Params) (id v : Nat) : Bool :=
  (decide (id ≠ 10) || decide (v < p.lostAt)) && (decide (id ≠ 11) || decide (p.suspectAt < v))

/-- The trunk whose rate a parameter sets is not DISABLED (R185, check 4). -/
def rateLocked (s : State) (id : Nat) : Bool :=
  match rateTrunk id with
  | some t => decide ((s.trunk t).state ≠ .disabled)
  | none => false

/-- SET_PARAM against the parameter table (R185). -/
def setParamBody (a : Vector Word 6) (s : State) : CmdResult :=
  let id := field a[0] 0
  let v := (lowHalf a[1]).toNat
  if !paramExists id then refuse s .badArgument
  else if !paramInRange id v then refuse s .badArgument
  else if !thresholdOk s.params id v then refuse s .badArgument
  else if rateLocked s id then refuse s .trunkState
  else answer { s with port := { s.port with params := s.params.put id v } } [num (s.params.get id)]

/-- SET_PARAM (R185, R187). -/
def execSetParam (s : State) : Host.Outcome State Fault Refusal := runCommand 19 setParamBody s

/-- GET_PARAM against the parameter table (R186). -/
def getParamBody (a : Vector Word 6) (s : State) : CmdResult :=
  let id := field a[0] 0
  if !paramExists id then refuse s .badArgument else answer s [num (s.params.get id)]

/-- GET_PARAM (R186). -/
def execGetParam (s : State) : Host.Outcome State Fault Refusal := runCommand 20 getParamBody s

/-- BAD_COMMAND: a command code that names no command reaches no block (R182, R197). -/
def execBadCommand (s : State) : Host.Outcome State Fault Refusal :=
  if executing s s.port.command.toNat && !isCommandCode s.port.command.toNat then
    .next (settle (finishCommand (refuse s .badCommand)))
  else .next s

/-! ### Writes of the register window -/

/-- COMMAND_WORD_WRITE (R181): a write of the command word, accepted in IDLE. -/
def execCommandWordWrite (v : Word) (s : State) : Host.Outcome State Fault Refusal :=
  .next (settle (writeCommandWord s v))

/-- COMMAND_WRITE_IGNORED (R183): a write of the command word while the port is BUSY or INITIALIZING
(log 31). -/
def execCommandWriteIgnored (v : Word) (s : State) : Host.Outcome State Fault Refusal :=
  .next (settle (writeCommandWord s v))

/-- OVERRUN_CLEAR (R183): a write of the port status word. -/
def execOverrunClear (v : Word) (s : State) : Host.Outcome State Fault Refusal :=
  .next (settle (writeStatusWord s v))

/-- CONTROLLER_RESET (R190, R191): a write of the controller-reset word. -/
def execControllerReset (v : Word) (s : State) : Host.Outcome State Fault Refusal :=
  .next (settle (writeResetWord s v))

/-- CHANGE_WORD_WRITE (R193). -/
def execChangeWordWrite (k : Fin 4) (v : Word) (s : State) : Host.Outcome State Fault Refusal :=
  .next (settle (writeChangeWord s k v))

/-- TRUNK_EVENT_CLEAR (R194): a write of the trunk event word. -/
def execTrunkEventClear (v : Word) (s : State) : Host.Outcome State Fault Refusal :=
  .next (settle (writeTrunkEventWord s v))

/-- INTERRUPT_ENABLE_WRITE (R195). -/
def execInterruptEnableWrite (v : Word) (s : State) : Host.Outcome State Fault Refusal :=
  .next (settle (writeEnableMask s v))

/-- REGISTER_WRITE (R188): a write of the register window. One of a whole word is taken as the write of that
word; one of a halfword or a byte is ignored. -/
def execRegisterWrite (off : BitVec 6) (p : Part) (v : Word) (s : State) : Host.Outcome State Fault Refusal :=
  if p = .word then .next (settle (writeRegister s off.toNat v)) else .next s

/-! ### Reads of the register window that have an effect -/

/-- RESULT_CODE_READ (R184): the code is returned and the command-done flag cleared. -/
def execResultCodeRead (p : Part) (s : State) : Host.Outcome State Fault Refusal :=
  let t := returned s p (registerView s 7)
  .next (settle { t with port := { t.port with done := false } })

/-- CHANGE_WORD_READ (R193): the flags of the part read are returned, and the seen mark of each that is returned set is
set. Seen marks are none of the three read effects that R188 gives a read of any part (log 9). -/
def execChangeWordRead (k : Fin 4) (p : Part) (s : State) : Host.Outcome State Fault Refusal :=
  let t := returned s p (changeWord s k)
  .next (settle { t with
    seenMarks := Vector.ofFn fun i =>
      s.seenMarks[i] || (decide (i.val / 32 = k.val) && partReaches p (i.val % 32) && s.changeFlags[i]) })

/-- STRAY_COUNT_READ (R159): the count is returned and set to 0. -/
def execStrayCountRead (t : TrunkId) (p : Part) (s : State) : Host.Outcome State Fault Refusal :=
  let u := returned s p (num (s.trunk t).strayCount)
  .next (settle (u.modTrunk t fun x => { x with strayCount := 0 }))

/-! ### Writes of the buffer window (R180, R189) -/

/-- BUFFER_WINDOW_WRITE (R189): the aligned bytes the access reaches are written, unless the port is
INITIALIZING. -/
def execBufferWindowWrite (addr : BitVec 14) (size : Access) (v : Word) (s : State) :
    Host.Outcome State Fault Refusal :=
  if s.port.state = .initializing then .next s
  else .next (settle { s with buffer := s.buffer.writeBytes (accessBase addr size) (accessData size v) })

end Sys2Proof.Machine
end

