-- ==== Sys2Proof/Machine/Resets.lean ====
section
/-! DEFINITION. The power-on reset input and the end of the power-on clear (R179). The controller reset is
`controllerReset` of PortOps. -/

namespace Sys2Proof.Machine

/-- A Trunk Controller at power-on reset (R129, R168, R196): what its receive input shows is the line's (log 13). -/
def Trunk.powerOn (x : Trunk) : Trunk :=
  { Trunk.reset with rxIdle := x.rxIdle, idleFor := x.idleFor, idleNew := x.idleNew, rxHeld := x.rxHeld }

/-- Power-on reset: every block takes its power-on state, the port is INITIALIZING, and the clear of buffer memory
awaits the input's release (R32, R64, R129, R147, R168, R179, R196). The queue and the model's own fields are
none of the part's. -/
def powerOnState (s : State) : State :=
  { State.reset with
    pending := s.pending
    port := { Port.reset with resetHeld := true, clearTimer := none }
    trunkA := s.trunkA.powerOn
    trunkB := s.trunkB.powerOn
    buffer := s.buffer
    busRead := s.busRead
    freeCount := s.freeCount }

/-- POWER_ON_RESET (R179): the power-on reset input is asserted. -/
def execPowerOnReset (s : State) : Host.Outcome State Fault Refusal := .next (settle (powerOnState s))

/-- The release of the power-on reset input starts the time to the end of the clear: two tick boundaries
(R179). -/
def releaseReset (s : State) : Option State :=
  if s.port.resetHeld then
    some { s with port := { s.port with resetHeld := false, clearTimer := some 2 } }
  else none

/-- POWER_ON_RESET_RELEASE (R179). -/
def execPowerOnResetRelease (s : State) : Host.Outcome State Fault Refusal := occur (releaseReset s) s

/-- The end of the power-on clear, at the tick boundary its timer expires at: every byte of buffer memory is 0 and the
port enters IDLE (R179; logs 25
and 26). -/
def endClear (s : State) : Option State :=
  if s.port.state = .initializing ∧ isDue s.port.clearTimer = true then
    some { s with buffer := [], port := { s.port with state := .idle, clearTimer := none } }
  else none

/-- POWER_ON_CLEAR_END (R179). -/
def execPowerOnClearEnd (s : State) : Host.Outcome State Fault Refusal := occur (endClear s) s

end Sys2Proof.Machine
end

