-- ==== Sys2Proof/Machine/Service.lean ====
section
/-! DEFINITION. The host's side of the Service Arbiter: the command END_SERVICE and the read of the
service-acknowledge word (spec/06). -/

namespace Sys2Proof.Machine

/-! ### END_SERVICE (R140, R141) -/

/-- A popped station with its re-raise flag set requests again, unless it is LOST (R141). -/
def reRaiseStation (s : State) (r : RecIdx) : State :=
  let x := s.station r
  if x.reRaise then
    let s := s.modStation r fun y => { y with reRaise := false }
    if x.armed ∧ x.state ≠ .lost then
      (joinPending s x.priority r).modStation r fun y => { y with coalesce := 1 }
    else s
  else s

/-- END_SERVICE against the Service Arbiter (R140, R141). -/
def endServiceBody (a : Vector Word 6) (s : State) : CmdResult :=
  let h := lowHalf a[0]
  match checkHandle s h with
  | .error c => refuse s c
  | .ok r =>
    match s.serviceStack with
    | [] => refuse s .nothingInService
    | top :: rest =>
      if top.record = r ∧ top.generation = handleGeneration h then
        answer (reRaiseStation { s with serviceStack := rest } r) [num rest.length, top.vector.setWidth 32]
      else refuse s .order

/-- END_SERVICE (R140, R141). -/
def execEndService (s : State) : Host.Outcome State Fault Refusal := runCommand 14 endServiceBody s

/-! ### The service-acknowledge word (R137, R138) -/

/-- The winner is taken into service (R137). -/
def takeWinner (s : State) (p : Fin 8) (r : RecIdx) : State :=
  let x := s.station r
  let s := { s with
    serviceLists := s.serviceLists.set p (without s.serviceLists[p] r)
    serviceStack := ⟨r, x.generation, p, x.vector⟩ :: s.serviceStack }
  s.modStation r fun y => { y with coalesce := 0 }

/-- SERVICE_ACKNOWLEDGE: a read of the service-acknowledge word, or of a part of it (R137, R138, R188). -/
def execServiceAcknowledge (p : Part) (s : State) : Host.Outcome State Fault Refusal :=
  let t := returned s p (serviceWord s)
  match serviceWinner s with
  | some (level, r) => .next (settle (takeWinner t level r))
  | none => .next (settle t)

end Sys2Proof.Machine
end

