-- ==== Sys2Proof/Machine/TimerEvents.lean ====
section
/-! DEFINITION. The expiries of timers (R1): each is the event of the tick boundary at which its timer has counted its
last tick. A timer that is stopped, or that has ticks left, does not expire, and the command then changes nothing
(log 3). -/

namespace Sys2Proof.Machine

/-- The expiry of a poll timer (R110): the station joins the poll-due list of its current trunk in ACTIVE and
SUSPECT, and of its probe trunk in LOST. -/
def pollExpiry (s : State) (r : RecIdx) : Option State :=
  if isDue (s.station r).pollTimer then
    let s := s.modStation r fun x => { x with pollTimer := none }
    match (s.station r).state with
    | .active | .suspect => some (joinPollDue s (s.station r).curTrunk r)
    | .lost => some (chooseProbe s r)
    | _ => some s
  else none

/-- POLL_TIMER_EXPIRY (R110). -/
def execPollTimerExpiry (r : RecIdx) (s : State) : Host.Outcome State Fault Refusal := occur (pollExpiry s r) s

/-- The expiry of a repeat timer (R44, R83): the slot is ACTIVE between frames with a repeat pending. -/
def repeatExpiry (s : State) (n : SlotIdx) : Option State :=
  let x := s.slot n
  if x.state = .repeatWait ∧ isDue x.timer = true then
    some (s.setSlot n { x with state := .active, timer := none, pendingStep := .again })
  else none

/-- REPEAT_TIMER_EXPIRY (R44). -/
def execRepeatTimerExpiry (n : SlotIdx) (s : State) : Host.Outcome State Fault Refusal := occur (repeatExpiry s n) s

/-- The expiry of a period timer (R45, R100): the slot is QUEUED at the tail of its station queue. -/
def periodExpiry (s : State) (n : SlotIdx) : Option State :=
  let x := s.slot n
  if x.state = .standingWait ∧ isDue x.timer = true then
    some ((s.setSlot n { x with state := .queued, timer := none }).modStation x.station fun y =>
      { y with queue := y.queue ++ [n] })
  else none

/-- PERIOD_TIMER_EXPIRY (R45). -/
def execPeriodTimerExpiry (n : SlotIdx) (s : State) : Host.Outcome State Fault Refusal := occur (periodExpiry s n) s

/-- The expiry of a resync wait timer (R127): the station, which is ENROLLING or RECOVERING, rejoins its current
trunk's RESYNC list. -/
def resyncWaitEnd (s : State) (r : RecIdx) : Option State :=
  if isDue (s.station r).resyncWait then
    let s := s.modStation r fun x => { x with resyncWait := none }
    match (s.station r).state with
    | .enrolling | .recovering => some (joinResync s r)
    | _ => some s
  else none

/-- RESYNC_WAIT_EXPIRY (R127). -/
def execResyncWaitExpiry (r : RecIdx) (s : State) : Host.Outcome State Fault Refusal := occur (resyncWaitEnd s r) s

/-- The expiry of a reply timer (R155): the window closes and the outcome is NO_REPLY. -/
def windowExpiry (s : State) (t : TrunkId) : Option State :=
  match (s.trunk t).inFlight with
  | some f =>
    if f.phase = .window ∧ isDue (s.trunk t).replyTimer = true then some (endFrame s t f.owner (.miss .noReply))
    else none
  | none => none

/-- REPLY_WINDOW_EXPIRY (R155, R158). -/
def execReplyWindowExpiry (t : TrunkId) (s : State) : Host.Outcome State Fault Refusal := occur (windowExpiry s t) s

/-- The expiry of a guard timer (R158, R161): the trunk becomes free. -/
def guardExpiry (s : State) (t : TrunkId) : Option State :=
  if isDue (s.trunk t).guardTimer then some (s.modTrunk t fun x => { x with guardTimer := none }) else none

/-- GUARD_TIMER_EXPIRY (R158). -/
def execGuardTimerExpiry (t : TrunkId) (s : State) : Host.Outcome State Fault Refusal := occur (guardExpiry s t) s

/-- The expiry of a line-hold timer (R163): the character being received, if any, ends as a character error, which is a
stray byte (R148), and the trunk leaves ONLINE and enters FAULT with its event flag set. -/
def holdExpiry (s : State) (t : TrunkId) : Option State :=
  if (s.trunk t).state = .online ∧ isDue (s.trunk t).lineHold = true then
    some (readRate (setEvent (leaveOnline (cutCharacter s t) t .fault) t) t)
  else none

/-- LINE_HOLD_EXPIRY (R163, R165). -/
def execLineHoldExpiry (t : TrunkId) (s : State) : Host.Outcome State Fault Refusal := occur (holdExpiry s t) s

/-- The end of an ECHO's listening time (R167). -/
def listenExpiry (s : State) (t : TrunkId) : Option State :=
  match s.port.echo with
  | some e => if e.trunk = t ∧ isDue e.listen = true then some (finishEcho s e) else none
  | none => none

/-- ECHO_LISTEN_EXPIRY (R167). -/
def execEchoListenExpiry (t : TrunkId) (s : State) : Host.Outcome State Fault Refusal := occur (listenExpiry s t) s

end Sys2Proof.Machine
end

