-- ==== Sys2Proof/Machine/TrunkCommands.lean ====
section
/-! DEFINITION. The trunk commands TRUNK_ENABLE, TRUNK_DISABLE, TRUNK_TEST and ECHO (spec/07). -/

namespace Sys2Proof.Machine

/-- TRUNK_ENABLE of a trunk that is DISABLED or FAULT (R162). -/
def enableTrunk (s : State) (t : TrunkId) : State :=
  if lineQuiet (s.trunk t) (rateParam s.params t) then
    readRate (s.modTrunk t fun x => { x with state := .online, guardTimer := none }) t
  else readRate (setEvent (s.modTrunk t fun x => { x with state := .fault }) t) t

/-- TRUNK_ENABLE against the Trunk Controller (R162). -/
def trunkEnableBody (a : Vector Word 6) (s : State) : CmdResult :=
  match trunkOf (field a[0] 0) with
  | none => refuse s .badArgument
  | some t =>
    if (s.trunk t).state = .online ∨ (s.trunk t).state = .test then refuse s .trunkState
    else
      let s := enableTrunk s t
      answer s [num (trunkStateCode (s.trunk t).state)]

/-- TRUNK_ENABLE (R162). -/
def execTrunkEnable (s : State) : Host.Outcome State Fault Refusal := runCommand 15 trunkEnableBody s

/-- TRUNK_DISABLE of a trunk (R164). -/
def disableTrunk (s : State) (t : TrunkId) : State :=
  if (s.trunk t).state = .online then leaveOnline s t .disabled
  else s.modTrunk t fun x =>
    { x with state := .disabled, replyTimer := none, guardTimer := none, lineHold := none }

/-- TRUNK_DISABLE against the Trunk Controller (R164, R165). -/
def trunkDisableBody (a : Vector Word 6) (s : State) : CmdResult :=
  match trunkOf (field a[0] 0) with
  | none => refuse s .badArgument
  | some t => answer (disableTrunk s t) []

/-- TRUNK_DISABLE (R164, R165). -/
def execTrunkDisable (s : State) : Host.Outcome State Fault Refusal := runCommand 16 trunkDisableBody s

/-- Some record that is not VACANT has the trunk as its current trunk (R166, check 3). -/
def trunkUsed (s : State) (t : TrunkId) : Bool :=
  s.stations.toList.any fun x => decide (x.state ≠ .vacant) && decide (x.curTrunk = t)

/-- TRUNK_TEST against the Trunk Controller (R166). -/
def trunkTestBody (a : Vector Word 6) (s : State) : CmdResult :=
  match trunkOf (field a[0] 0) with
  | none => refuse s .badArgument
  | some t =>
    if (s.trunk t).state ≠ .disabled then refuse s .trunkState
    else if trunkUsed s t then refuse s .trunkInUse
    else answer (readRate (s.modTrunk t fun x => { x with state := .test }) t) []

/-- TRUNK_TEST (R166). -/
def execTrunkTest (s : State) : Host.Outcome State Fault Refusal := runCommand 17 trunkTestBody s

/-- The checks of R167, in order: the trunk, and the characters to be sent. -/
def checkEcho (a : Vector Word 6) (s : State) : Except ResultCode (TrunkId × List Byte) :=
  match trunkOf (field a[0] 0) with
  | none => .error .badArgument
  | some t =>
    let offset := (lowHalf a[1]).toNat
    let len := field a[1] 2
    if (s.trunk t).state ≠ .test then .error .trunkState
    else if ¬(1 ≤ len ∧ len ≤ 64) then .error .badArgument
    else if offset % 4 ≠ 0 ∨ bufferSize < offset + len then .error .bufferRange
    else .ok (t, (echoFrame (freeByte s) (s.buffer.readBytes offset len)).bytes)

/-- ECHO (R167): refused by its checks, or its transmission begins and the port stays BUSY until the result is
known. It awaits no tick boundary (R182, log 20). The frame's SUB byte is drawn from the free values (log 32). -/
def execEcho (s : State) : Host.Outcome State Fault Refusal :=
  if executing s 18 then
    match checkEcho s.port.snapshot s with
    | .error c => .next (settle (finishCommand (refuse s c)))
    | .ok (t, sent) =>
      .next (settle { drawn s with port := { s.port with echo := some ⟨t, sent, [], true, none⟩ } })
  else .next s

end Sys2Proof.Machine
end

