-- ==== Sys2Proof/Machine/TrunkEvents.lean ====
section
/-! DEFINITION. The events of a trunk: the arbiter's taking of an offer, the end of transmission, the characters
received, the level of the receive input, and the loopback of an ECHO (spec/07). -/

namespace Sys2Proof.Machine

/-- The arbiter takes an offer (R161): the chosen source's frame becomes the frame in flight (log 6). -/
def takeOffer (s : State) (t : TrunkId) : Option State :=
  (arbiterChoice s t).map fun (src, o) => sendFrame (markServed s t src o) t o

/-- ARBITER_TAKES_OFFER (R161, R66, R92, R95, R113, R124). -/
def execArbiterTakesOffer (t : TrunkId) (s : State) : Host.Outcome State Fault Refusal := occur (takeOffer s t) s

/-- The end of the transmission on a trunk (R154), or of an ECHO's last character (R167). -/
def transmissionEnd (s : State) (t : TrunkId) : Option State :=
  match (s.trunk t).inFlight with
  | some f => if f.phase = .transmitting then some (endTransmission s t f) else none
  | none =>
    match s.port.echo with
    | some e =>
      if e.trunk = t ∧ e.transmitting = true then
        some { s with port := { s.port with
          echo := some { e with transmitting := false, listen := startTimer s.params.replyWindow } } }
      else none
    | none => none

/-- TRANSMISSION_END (R154). -/
def execTransmissionEnd (t : TrunkId) (s : State) : Host.Outcome State Fault Refusal := occur (transmissionEnd s t) s

/-- REPLY_START (R155): a character 0x3C with a correct stop bit is received (log 31). -/
def execReplyStart (t : TrunkId) (s : State) : Host.Outcome State Fault Refusal :=
  occur (some (receive t [⟨0x3C, true⟩] s)) s

/-- STRAY_BYTE (R159): a character is received. -/
def execStrayByte (t : TrunkId) (c : RxChar) (s : State) : Host.Outcome State Fault Refusal :=
  occur (some (receive t [c] s)) s

/-- REPLY_TAKEN (R156, R157, R158): the characters of a reply after its preamble are received. With no reply being
received they are stray bytes (R155, R159, R165, R175). -/
def execReplyTaken (t : TrunkId) (chars : List RxChar) (s : State) : Host.Outcome State Fault Refusal :=
  occur (some (receive t chars s)) s

/-- More than two character times pass during a reply (R156, ways 2 and 4): it is a BAD_REPLY (log 22). -/
def gapTimeout (s : State) (t : TrunkId) : Option State :=
  match (s.trunk t).inFlight with
  | some f => if f.phase = .receiving then some (endFrame s t f.owner (.miss .badReply)) else none
  | none => none

/-- REPLY_GAP_TIMEOUT (R156, R158). -/
def execReplyGapTimeout (t : TrunkId) (s : State) : Host.Outcome State Fault Refusal := occur (gapTimeout s t) s

/-- A character delivered through a TEST trunk's loopback is taken by the ECHO, which ends when it has taken as
many as were sent (R167). -/
def takeLoopback (s : State) (t : TrunkId) (c : RxChar) : Option State :=
  match s.port.echo with
  | some e =>
    if e.trunk = t then
      let e := { e with taken := e.taken ++ [c] }
      some (if e.sent.length ≤ e.taken.length then finishEcho s e
        else { s with port := { s.port with echo := some e } })
    else none
  | none => none

/-- LOOPBACK_CHARACTER (R167). -/
def execLoopbackCharacter (t : TrunkId) (c : RxChar) (s : State) : Host.Outcome State Fault Refusal :=
  occur (takeLoopback s t c) s

/-- The receive input goes to the level given, `lead` units of 1.25 us before the next tick boundary: the idle
history starts anew (R162, log 12), and on an ONLINE trunk the line-hold timer stops at the idle level and, while
the trunk does not transmit, starts at the non-idle level, where a character is then being received (R148, R163,
log 21). At the idle level a held line gives characters again (R148). -/
def changeLevel (s : State) (t : TrunkId) (idle : Bool) (lead : Nat) : Option State :=
  let x := s.trunk t
  if x.rxIdle = idle then none
  else
    some (s.setTrunk t { x with
      rxIdle := idle, idleFor := if idle then min 128 lead else 0, idleNew := true
      lineHold :=
        if x.state = .online ∧ idle = false ∧ x.driverEnable = false then startTimer s.params.lineHoldTime
        else if idle then none else x.lineHold
      rxChar := x.rxChar || (decide (x.state = .online) && !idle && !x.driverEnable)
      rxHeld := x.rxHeld && !idle })

/-- RECEIVE_INPUT_LEVEL_CHANGE (R162, R163). -/
def execReceiveInputLevelChange (t : TrunkId) (idle : Bool) (lead : Nat) (s : State) :
    Host.Outcome State Fault Refusal :=
  occur (changeLevel s t idle lead) s

end Sys2Proof.Machine
end

