-- ==== Sys2Proof/Machine/Dispatch.lean ====
section
/-! DEFINITION. The one dispatch from a command to its meaning. -/

namespace Sys2Proof.Machine

def exec (i : Instr) (s : State) : Host.Outcome State Fault Refusal :=
  match i with
  | .enrol => Sys2Proof.Machine.execEnrol s
  | .find => Sys2Proof.Machine.execFind s
  | .inspect => Sys2Proof.Machine.execInspect s
  | .modify => Sys2Proof.Machine.execModify s
  | .hold => Sys2Proof.Machine.execHold s
  | .resume => Sys2Proof.Machine.execResume s
  | .retire => Sys2Proof.Machine.execRetire s
  | .move => Sys2Proof.Machine.execMove s
  | .submit => Sys2Proof.Machine.execSubmit s
  | .cancel => Sys2Proof.Machine.execCancel s
  | .collect => Sys2Proof.Machine.execCollect s
  | .claim => Sys2Proof.Machine.execClaim s
  | .unclaim => Sys2Proof.Machine.execUnclaim s
  | .endService => Sys2Proof.Machine.execEndService s
  | .trunkEnable => Sys2Proof.Machine.execTrunkEnable s
  | .trunkDisable => Sys2Proof.Machine.execTrunkDisable s
  | .trunkTest => Sys2Proof.Machine.execTrunkTest s
  | .echo => Sys2Proof.Machine.execEcho s
  | .setParam => Sys2Proof.Machine.execSetParam s
  | .getParam => Sys2Proof.Machine.execGetParam s
  | .badCommand => Sys2Proof.Machine.execBadCommand s
  | .commandWriteIgnored v => Sys2Proof.Machine.execCommandWriteIgnored v s
  | .overrunClear v => Sys2Proof.Machine.execOverrunClear v s
  | .resultCodeRead p => Sys2Proof.Machine.execResultCodeRead p s
  | .controllerReset v => Sys2Proof.Machine.execControllerReset v s
  | .serviceAcknowledge p => Sys2Proof.Machine.execServiceAcknowledge p s
  | .changeWordRead k p => Sys2Proof.Machine.execChangeWordRead k p s
  | .changeWordWrite k v => Sys2Proof.Machine.execChangeWordWrite k v s
  | .trunkEventClear v => Sys2Proof.Machine.execTrunkEventClear v s
  | .interruptEnableWrite v => Sys2Proof.Machine.execInterruptEnableWrite v s
  | .strayCountRead t p => Sys2Proof.Machine.execStrayCountRead t p s
  | .bufferWindowWrite addr size v => Sys2Proof.Machine.execBufferWindowWrite addr size v s
  | .registerWrite off p v => Sys2Proof.Machine.execRegisterWrite off p v s
  | .powerOnReset => Sys2Proof.Machine.execPowerOnReset s
  | .powerOnClearEnd => Sys2Proof.Machine.execPowerOnClearEnd s
  | .pollTimerExpiry r => Sys2Proof.Machine.execPollTimerExpiry r s
  | .repeatTimerExpiry n => Sys2Proof.Machine.execRepeatTimerExpiry n s
  | .periodTimerExpiry n => Sys2Proof.Machine.execPeriodTimerExpiry n s
  | .resyncWaitExpiry r => Sys2Proof.Machine.execResyncWaitExpiry r s
  | .replyWindowExpiry t => Sys2Proof.Machine.execReplyWindowExpiry t s
  | .guardTimerExpiry t => Sys2Proof.Machine.execGuardTimerExpiry t s
  | .lineHoldExpiry t => Sys2Proof.Machine.execLineHoldExpiry t s
  | .arbiterTakesOffer t => Sys2Proof.Machine.execArbiterTakesOffer t s
  | .transmissionEnd t => Sys2Proof.Machine.execTransmissionEnd t s
  | .replyStart t => Sys2Proof.Machine.execReplyStart t s
  | .replyTaken t chars => Sys2Proof.Machine.execReplyTaken t chars s
  | .replyGapTimeout t => Sys2Proof.Machine.execReplyGapTimeout t s
  | .strayByte t c => Sys2Proof.Machine.execStrayByte t c s
  | .loopbackCharacter t c => Sys2Proof.Machine.execLoopbackCharacter t c s
  | .echoListenExpiry t => Sys2Proof.Machine.execEchoListenExpiry t s
  | .commandWordWrite v => Sys2Proof.Machine.execCommandWordWrite v s
  | .receiveInputLevelChange t idle lead => Sys2Proof.Machine.execReceiveInputLevelChange t idle lead s
  | .powerOnResetRelease => Sys2Proof.Machine.execPowerOnResetRelease s

end Sys2Proof.Machine
end

