-- ==== Sys2Proof/Machine/Timebase.lean ====
section
/-! DEFINITION. What the block does while no command waits: an accepted ECHO begins, an arbiter that can take an offer
takes it, and otherwise a tick boundary passes (R1, R161, R167, R182, log 1, log 2, log 20). -/

namespace Sys2Proof.Machine

/-- A running timer at a tick boundary: one tick fewer is left (R1). -/
def tickTimer (t : Timer) : Timer := t.map (· - 1)

/-- A record's timers at a tick boundary. -/
def Station.tick (x : Station) : Station :=
  { x with pollTimer := tickTimer x.pollTimer, resyncWait := tickTimer x.resyncWait }

/-- A slot's timer at a tick boundary. -/
def Slot.tick (x : Slot) : Slot := { x with timer := tickTimer x.timer }

/-- A trunk's timers at a tick boundary, and its line's idle history (R162, log 12). -/
def Trunk.tick (x : Trunk) : Trunk :=
  { x with
    replyTimer := tickTimer x.replyTimer, guardTimer := tickTimer x.guardTimer, lineHold := tickTimer x.lineHold
    idleFor := if x.idleNew then x.idleFor else if x.rxIdle then min 128 (x.idleFor + 80) else 0
    idleNew := false }

/-- The port's timers at a tick boundary, which is one after the acceptance of the command in progress (R182). -/
def Port.tick (p : Port) : Port :=
  { p with
    due := decide (p.state = .busy)
    clearTimer := tickTimer p.clearTimer
    echo := p.echo.map fun e => { e with listen := tickTimer e.listen } }

/-- Every running timer of the part counts a tick boundary (R1). -/
def countDown (s : State) : State :=
  { s with
    port := s.port.tick, stations := s.stations.map Station.tick, slots := s.slots.map Slot.tick
    trunkA := s.trunkA.tick, trunkB := s.trunkB.tick }

/-- The execution of the command of a code (Table 11-4); a code that names none is refused (R182). -/
def commandOf : Nat → Instr
  | 1 => .enrol
  | 2 => .find
  | 3 => .inspect
  | 4 => .modify
  | 5 => .hold
  | 6 => .resume
  | 7 => .retire
  | 8 => .move
  | 9 => .submit
  | 10 => .cancel
  | 11 => .collect
  | 12 => .claim
  | 13 => .unclaim
  | 14 => .endService
  | 15 => .trunkEnable
  | 16 => .trunkDisable
  | 17 => .trunkTest
  | 18 => .echo
  | 19 => .setParam
  | 20 => .getParam
  | _ => .badCommand

/-- The execution of the accepted command, which falls on the first tick boundary after its acceptance (R182); an ECHO has
begun before it (`readyEcho`). -/
def dueCommand (p : Port) : List Instr :=
  if p.state = .busy ∧ p.echo = none then [commandOf p.command.toNat] else []

/-- The expiry of a trunk's timer, if it is due. -/
def dueTrunk (s : State) (sel : Trunk → Timer) (event : TrunkId → Instr) : List Instr :=
  ([.a, .b] : List TrunkId).filterMap fun t => if isDue (sel (s.trunk t)) then some (event t) else none

/-- The expiry of a record's timer, for each record where it is due, in index order. -/
def dueRecords (s : State) (sel : Station → Timer) (event : RecIdx → Instr) : List Instr :=
  allRecords.filterMap fun r => if isDue (sel (s.station r)) then some (event r) else none

/-- The expiry of the timer of each slot in a state, where it is due, in slot order. -/
def dueSlots (s : State) (st : SlotState) (event : SlotIdx → Instr) : List Instr :=
  allSlots.filterMap fun n => if (s.slot n).state = st ∧ isDue (s.slot n).timer = true then some (event n) else none

/-- The end of an ECHO's listening, if it is due. -/
def dueEcho (p : Port) : List Instr :=
  match p.echo with
  | some e => if isDue e.listen then [.echoListenExpiry e.trunk] else []
  | none => []

/-- The events of a tick boundary, in the order the model takes them (log 2). A timer that one of them starts anew has
ticks left, and the expiry that stands for it in the queue then does not come about (R1). -/
def dueEvents (s : State) : List Instr :=
  dueRecords s (·.pollTimer) .pollTimerExpiry
    ++ dueSlots s .repeatWait .repeatTimerExpiry
    ++ dueSlots s .standingWait .periodTimerExpiry
    ++ dueRecords s (·.resyncWait) .resyncWaitExpiry
    ++ dueTrunk s (·.guardTimer) .guardTimerExpiry
    ++ (if isDue s.port.clearTimer then [.powerOnClearEnd] else [])
    ++ dueEcho s.port
    ++ dueTrunk s (·.lineHold) .lineHoldExpiry
    ++ dueTrunk s (·.replyTimer) .replyWindowExpiry
    ++ dueCommand s.port

/-- A tick boundary: the timers count it, and its events join the queue (R1, R182). -/
def tickBoundary (s : State) : State :=
  let t := countDown s
  { t with pending := s.pending ++ dueEvents t }

/-- The arbiters that can take an offer (R161). -/
def readyArbiters (s : State) : List Instr :=
  ([.a, .b] : List TrunkId).filterMap fun t =>
    if (arbiterChoice s t).isSome then some (.arbiterTakesOffer t) else none

/-- The execution of an accepted ECHO, which begins before the next tick boundary (R167, R182, log 20). -/
def readyEcho (p : Port) : List Instr :=
  if p.state = .busy ∧ p.echo = none ∧ p.command = 18 then [.echo] else []

/-- What the block does while no command waits: an accepted ECHO begins and the arbiters that can take an offer do, and
otherwise a tick boundary passes (log 1, log 20). -/
def idleStep (s : State) : State :=
  let ready := readyEcho s.port ++ readyArbiters s
  if ready = [] then tickBoundary s else { s with pending := s.pending ++ ready }

end Sys2Proof.Machine
end

