-- ==== Sys2Proof/Safety.lean ====
section
/-! DEFINITION. The terms the statements are written in: how a command of the port begins and ends, what a handle
names, and the laws of the device as predicates of the state. -/

namespace Sys2Proof.Machine

/-! ### The execution of a command of the port (R181, R182) -/

/-- The port has accepted the command of this code, its execution has not begun, and it awaits no tick boundary any more: one
has passed since the acceptance, or it is ECHO, which awaits none. -/
def Accepted (s : State) (code : Nat) : Prop :=
  s.port.state = .busy ∧ s.port.command.toNat = code ∧ s.port.echo = none ∧ (s.port.due = true ∨ code = 18)

/-- An ECHO has been accepted and has not begun (R167). -/
def EchoWaits (s : State) : Prop := s.port.state = .busy ∧ s.port.echo = none ∧ s.port.command = 18

/-- The port ends a command with a result (R182): the code and the values are written, values not defined read 0
(R197), the command-done flag is set, the port is IDLE and no command awaits a boundary; the rest of the port is as before, and the interrupt
line stands as the causes and the mask make it (R195). -/
def Ends (s t : State) (c : ResultCode) (values : List Word) : Prop :=
  t.port = { s.port with
    state := .idle, code := c, values := Vector.ofFn fun i => values.getD i.val 0, done := true, due := false }
  ∧ t.interruptLine = lineLevel t

/-- The command ends with the code and no values, and nothing else of the part changes (R182). -/
def Refused (i : Instr) (s : State) (c : ResultCode) : Prop :=
  ∃ t, exec i s = .next t ∧ Ends s t c [] ∧ t = { s with port := t.port, interruptLine := t.interruptLine }

/-- The code of the first check that fails, in the order of the list. -/
def firstFailure : List (Bool × ResultCode) → Option ResultCode
  | [] => none
  | (fails, c) :: rest => if fails then some c else firstFailure rest

/-- The handle names the record (R2): bit 7 of its low byte is 0, its low bits are the index, the record is
occupied, and its high byte is the record's generation. -/
def Names (s : State) (h : BitVec 16) (r : RecIdx) : Prop :=
  h.getLsbD 7 = false ∧ r.val = h.toNat % 128 ∧ (s.station r).state ≠ .vacant
    ∧ (s.station r).generation = h.extractLsb' 8 8

/-- The 16-bit handle in the low half of argument word 0 (Table 11-3). -/
def handleArgument (s : State) : BitVec 16 := s.port.snapshot[0].extractLsb' 0 16

/-- Byte k of an argument word, as the running command reads it (R181). -/
def argumentByte (s : State) (word : Fin 6) (k : Nat) : Byte := (s.port.snapshot[word]).extractLsb' (8 * k) 8

/-- The low half of an argument word as a number. -/
def argumentHalf (s : State) (word : Fin 6) : Nat := ((s.port.snapshot[word]).extractLsb' 0 16).toNat

/-- A record other than `r` is as it was. -/
def OtherStations (r : RecIdx) (s t : State) : Prop := ∀ q, q ≠ r → t.station q = s.station q

/-- A slot other than `n` is as it was. -/
def OtherSlots (n : SlotIdx) (s t : State) : Prop := ∀ m, m ≠ n → t.slot m = s.slot m

/-- The two checks of a handle, in order (R2). -/
def handleChecks (s : State) (h : BitVec 16) : List (Bool × ResultCode) :=
  [(h.getLsbD 7, .badArgument),
   (decide ((s.station (handleIndex h)).state = .vacant
      ∨ (s.station (handleIndex h)).generation ≠ h.extractLsb' 8 8), .staleHandle)]

/-- The two checks of the slot number in byte 0 of argument word 0, in order (R34). -/
def slotChecks (s : State) : List (Bool × ResultCode) :=
  [(decide (31 < (argumentByte s 0 0).toNat), .badArgument),
   (decide (∀ n : SlotIdx, n.val = (argumentByte s 0 0).toNat → (s.slot n).state = .free), .noSuchExchange)]

/-- The high half of an argument word. -/
def argumentHigh (s : State) (word : Fin 6) : BitVec 16 := (s.port.snapshot[word]).extractLsb' 16 16

/-- The target of a SUBMIT, in the low half of argument word 1 (Table 11-3). -/
def targetArgument (s : State) : BitVec 16 := s.port.snapshot[1].extractLsb' 0 16

/-- A range of length bytes does not fit the fifth check (R50): its offset is no multiple of 4, is above 16380, or the
range passes the end of buffer memory. -/
def badRange (offset length : Nat) : Bool :=
  decide (offset % 4 ≠ 0 ∨ 16380 < offset ∨ 16384 < offset + length)

/-- The checks of SUBMIT (R48 to R51), in order, on the arguments of Table 11-3. The kinds are 1 READ, 2 WRITE, 3 CONTROL,
4 SWEEP_READ, 5 GROUP_WRITE, 6 STANDING_READ; the ready modes 0 STOP, 1 REPEAT, 2 SKIP. A group write's ready mode is STOP
whatever the argument (R36). -/
def submitChecks (s : State) : List (Bool × ResultCode) :=
  let kind := (argumentByte s 0 0).toNat
  let mode := (argumentByte s 0 1).toNat
  let target := targetArgument s
  let x := s.station (handleIndex target)
  let length := argumentHalf s 2
  let offset := argumentHalf s 3
  let offset2 := (argumentHigh s 3).toNat
  let segment := (argumentByte s 2 2).toNat
  [ (decide (kind = 0 ∨ 6 < kind), .badArgument),
    (decide (kind ≠ 5) && target.getLsbD 7, .badArgument),
    (decide (kind ≠ 5 ∧ (x.state = .vacant ∨ x.generation ≠ target.extractLsb' 8 8)), .staleHandle),
    (decide (kind = 5 ∧ ¬(240 ≤ target.toNat ∧ target.toNat ≤ 255)), .badArgument),
    (decide (kind ≠ 5 ∧ x.state = .lost), .stationLost),
    (decide (kind ≠ 5 ∧ x.state = .retiring), .stationState),
    (decide ((kind ≠ 3 ∧ length = 0) ∨ (if kind = 3 ∨ kind = 5 then 64 else 1024) < length
      ∨ (kind = 4 ∧ (segment = 0 ∨ 64 < segment))
      ∨ (kind = 6 ∧ (mode ≠ 0 ∨ argumentHalf s 4 = 0))
      ∨ (kind ≠ 5 ∧ (2 < mode ∨ (mode = 1 ∧ argumentByte s 0 2 = 0)))), .badArgument),
    (badRange offset length || (decide (kind = 6) && (badRange offset2 length
      || decide (offset < offset2 + length ∧ offset2 < offset + length))), .bufferRange),
    (decide (kind = 6) && decide (8 ≤ standingCount s), .standingLimit),
    (decide (∀ n, (s.slot n).state ≠ .free), .noFreeSlot) ]

/-- The slot as a SUBMIT that passes its checks fills it (R36, R52, R94), of the kind and the ready mode the arguments
name. -/
def submitted (s : State) (kind : ExchangeKind) (mode : ReadyMode) : Slot :=
  { Slot.reset with
    state := .queued, kind := kind, target := targetArgument s, subAddress := argumentByte s 0 3
    offset := argumentHalf s 3
    offset2 := if kind = .standingRead then (argumentHigh s 3).toNat else argumentHalf s 3
    length := argumentHalf s 2
    segmentSize := if kind = .sweepRead then (argumentByte s 2 2).toNat else 0
    readyMode := mode
    repeatLimit := if mode = .repeatBusy then (argumentByte s 0 2).toNat else 0
    period := if kind = .standingRead then argumentHalf s 4 else 0
    tag := argumentHigh s 1, curSub := argumentByte s 0 3 }

/-- A trunk is chosen at the dispatch of a write to a group (R91): it is ONLINE and the current trunk of an ACTIVE or
SUSPECT station that is a member. -/
def ChosenFor (s : State) (group : Byte) (u : TrunkId) : Prop :=
  (s.trunk u).state = .online ∧ ∃ r : RecIdx, (s.station r).curTrunk = u
    ∧ ((s.station r).state = .active ∨ (s.station r).state = .suspect)
    ∧ (group = 255 ∨ group ∈ (s.station r).groups)

/-- Four group bytes name no group list (R5): one of them is neither 0 nor a group address, or a group address
stands twice. -/
def badGroups (bytes : List Byte) : Bool :=
  decide (∃ g ∈ bytes, g ≠ 0 ∧ ¬(240 ≤ g.toNat ∧ g.toNat ≤ 254)) || decide ¬(bytes.filter (· ≠ 0)).Nodup

/-- The four group bytes of an argument word (Table 11-3). -/
def groupBytes (s : State) (word : Fin 6) : List Byte := (List.range 4).map (argumentByte s word)

/-- A trunk as an argument byte gives it; 2 is an absent alternate trunk (section 11.2). -/
def altTrunkCode : Option TrunkId → Nat
  | none => 2
  | some t => trunkCode t

/-- The word that carries a record's handle (section 11.2). -/
def handleWord (r : RecIdx) (generation : Byte) : Word := BitVec.ofNat 32 (r.val + 256 * generation.toNat)

/-- A list with the entry at its tail, unless it stands in the list already (R111). -/
def listed (l : List RecIdx) (r : RecIdx) : List RecIdx := if r ∈ l then l else l ++ [r]

/-- The slot when its exchange has completed with the code (R46, R74, R101). -/
def completed (c : CompletionCode) (x : Slot) : Slot :=
  { x with
    state := .complete, code := some c, timer := none, segToggle := none, image := []
    role1 := if x.role1 = .filling then .empty else x.role1
    role2 := if x.role2 = .filling then .empty else x.role2 }

/-- The change of one record and of no other has been reported (R193). -/
def Reported (r : RecIdx) (s t : State) : Prop :=
  t.changeFlags = s.changeFlags.set r true ∧ t.seenMarks = s.seenMarks.set r false

/-! ### Trunks and frames -/

/-- The controller of the other trunk is as it was. -/
def OtherTrunk (u : TrunkId) (s t : State) : Prop := ∀ w, w ≠ u → t.trunk w = s.trunk w

/-- The trunk may take an offer (R161): it is ONLINE, no frame is in flight and its guard timer is not running. -/
def TrunkIdle (s : State) (u : TrunkId) : Prop :=
  (s.trunk u).state = .online ∧ (s.trunk u).inFlight = none ∧ (s.trunk u).guardTimer = none

/-- The station's head slot offers a frame on the trunk (R65, R160). -/
def StationReady (s : State) (u : TrunkId) (r : RecIdx) (n : SlotIdx) : Prop :=
  (s.station r).curTrunk = u ∧ ((s.station r).state = .active ∨ (s.station r).state = .suspect)
    ∧ (s.station r).queue.head? = some n ∧ ((s.slot n).state = .queued ∨ (s.slot n).state = .active)
    ∧ (s.slot n).cancelRequested = false ∧ frameInFlight s r = false

/-- How far a record stands in the rotation from the one last served (R160). -/
def turn (last r : RecIdx) : Nat := (r.val + 127 - last.val) % 128

/-- The station is the first in rotation that is ready (R160). -/
def FirstReady (s : State) (u : TrunkId) (r : RecIdx) (n : SlotIdx) : Prop :=
  StationReady s u r n
    ∧ ∀ q m, StationReady s u q m → turn (s.trunk u).lastServed r ≤ turn (s.trunk u).lastServed q

/-- The source has no offer on the trunk (R160). -/
def Silent (s : State) (u : TrunkId) : Source → Prop
  | .station => ∀ r n, ¬StationReady s u r n
  | .group => ∀ n, s.groupQueue.head? = some n → (s.slot n).state = .active → (s.slot n).copy u ≠ .offered
  | .link => ∀ r, r ∈ (s.trunk u).resyncList ∨ r ∈ (s.trunk u).pollDue → frameInFlight s r = true

/-- The source is the one served least recently among those with an offer: every source before it in the order is
silent (R161). -/
def NextServed (s : State) (u : TrunkId) (src : Source) : Prop :=
  ∃ before after, (s.trunk u).order = before ++ src :: after ∧ src ∉ before ∧ ∀ x ∈ before, Silent s u x

/-- The trunk after it has taken a frame from a source (R154, R161): the frame is in flight and being transmitted, the
line-hold timer is stopped, the receive input is not examined (R148), and the source is the most recently served. -/
def trunkSending (x : Trunk) (src : Source) (o : FrameOwner) (f : Frame) : Trunk :=
  { x with
    inFlight := some { owner := o, frame := f, phase := .transmitting }, lineHold := none, rxChar := false
    order := x.order.filter (· ≠ src) ++ [src] }

/-- The trunk after the frame in flight has ended (R158). A reply ends with a character's end or in a gap, so that no
character is then being received (R156). -/
def trunkAfterFrame (s : State) (x : Trunk) : Trunk :=
  { x with
    inFlight := none, replyTimer := none, guardTimer := startTimer s.params.guardTime
    rxChar := x.rxChar && decide (x.inFlight.map (·.phase) ≠ some .receiving) }

/-- The line is held after the command (R148): it was, or characters arrived with a character error among them while its
level was not idle. -/
def heldAfter (x : Trunk) : Instr → Bool
  | .replyTaken _ chars => x.rxHeld || !x.rxIdle && chars.any fun c => !c.stopOk
  | _ => x.rxHeld

/-- The trunk after the frame in flight has ended with the command (R148, R158). -/
def trunkAfter (i : Instr) (s : State) (x : Trunk) : Trunk := { trunkAfterFrame s x with rxHeld := heldAfter x i }

/-- The RCTRL byte of a reply (Table 11-12). -/
def rctrlByte (code : ReplyCode) (attn echo : Bool) : Byte :=
  BitVec.ofBoolListLE [decide (code ≠ .busy), decide (code ≠ .ack), false, false, false, false, attn, echo]

/-- The characters of a reply after its preamble, received without error (Table 11-11), its check as R151 computes it. -/
def replyCharacters (src : Byte) (code : ReplyCode) (attn echo : Bool) (status : Byte) (data : List Byte) :
    List RxChar :=
  let body := [src, rctrlByte code attn echo, status, BitVec.ofNat 8 data.length] ++ data
  (body ++ checkBytes body).map fun v => ⟨v, true⟩

/-- A reply to the frame in flight on the trunk has begun, and its characters are still to be taken; the line is not held
after a character error, so that it can give them (R148). -/
def Receiving (s : State) (u : TrunkId) (o : FrameOwner) (f : Frame) : Prop :=
  (s.trunk u).inFlight = some { owner := o, frame := f, phase := .receiving, reply := [] } ∧ (s.trunk u).rxHeld = false

/-- The characters after the preamble end a reply as a BAD_REPLY by their own (R156, R157): 70 of them, the reply marked
bad by a COUNT above 64 or by a character error before its end; or a complete reply that fails a check of Table 7-3:
the check sequence, SRC, the reply code, the COUNT the frame allows, or the echo toggle. -/
def DamagedReply (f : Frame) (chars : List RxChar) : Prop :=
  (chars.length = 70 ∧ ∃ count, chars[3]? = some count
    ∧ (64 < count.value.toNat ∨ ∃ k c, k < 6 + count.value.toNat ∧ chars[k]? = some c ∧ c.stopOk = false))
  ∨ ∃ (src rctrl status : Byte) (data sent : List Byte), data.length ≤ 64 ∧ sent.length = 2
    ∧ chars = (([src, rctrl, status, BitVec.ofNat 8 data.length] ++ data ++ sent).map fun v => ⟨v, true⟩)
    ∧ (sent ≠ checkBytes ([src, rctrl, status, BitVec.ofNat 8 data.length] ++ data)
        ∨ src ≠ f.dest ∨ rctrl.extractLsb' 0 2 = 0
        ∨ f.kind = .read ∧ f.count.toNat < data.length
        ∨ f.kind ∈ [FrameKind.write, .control, .poll, .resync] ∧ data ≠ []
        ∨ f.kind ∈ [FrameKind.read, .write, .control, .resync] ∧ rctrl.getLsbD 7 ≠ f.toggle)

/-- The frame in flight on the trunk ends in a miss with the command: its reply window expires with NO_REPLY, or a reply
being received ends as a BAD_REPLY, by a gap or, with the characters taken before and those that the line
gives, as a damaged reply (R148, R155, R156, R157). -/
def EndsInMiss (s : State) (u : TrunkId) (o : FrameOwner) (c : Instr) (m : Miss) : Prop :=
  ∃ f, (s.trunk u).inFlight = some f ∧ f.owner = o
    ∧ ((c = .replyWindowExpiry u ∧ m = .noReply ∧ f.phase = .window ∧ (s.trunk u).replyTimer = some 0)
      ∨ (c = .replyGapTimeout u ∧ m = .badReply ∧ f.phase = .receiving)
      ∨ ∃ chars, c = .replyTaken u chars ∧ m = .badReply ∧ f.phase = .receiving ∧ chars ≠ []
          ∧ (s.trunk u).rxHeld = false ∧ DamagedReply f.frame (f.reply ++ heard (s.trunk u).rxIdle chars))

/-- The trunk other than its current trunk that a station may be moved to at the loss of that trunk, if it is ONLINE
(spec/08). -/
def UsableOther (s : State) (x : Station) (w : TrunkId) : Prop :=
  w ≠ x.curTrunk ∧ (w = x.homeTrunk ∨ some w = x.altTrunk) ∧ (s.trunk w).state = .online

/-- The slot whose exchange frame is in flight on the trunk. -/
def carriedOn (s : State) (u : TrunkId) : Option SlotIdx :=
  match (s.trunk u).inFlight with
  | some ⟨.exchange n _, _, _, _⟩ => some n
  | _ => none

/-! ### What a frame's end and a trunk's loss do to a station -/

/-- A station has an entry on the in-service stack (R130). -/
def serving (s : State) (r : RecIdx) : Bool := s.serviceStack.any fun e => decide (e.record = r)

/-- A station stands on a pending list (R130). -/
def waiting (s : State) (r : RecIdx) : Bool := decide (∃ p : Fin 8, r ∈ s.serviceLists[p])

/-- The record when an ATTN, if one is taken, has acted by the station's service condition (R134, R135). -/
def attnTaken (s : State) (r : RecIdx) (taken : Bool) (y : Station) : Station :=
  { y with
    reRaise := y.reRaise || taken && serving s r
    coalesce := if taken && !serving s r then (if waiting s r then min 255 (y.coalesce + 1) else 1) else y.coalesce }

/-- The pending lists when an ATTN, if one is taken, has acted: an idle station joins the list of its priority (R134). -/
def AttnListed (s t : State) (r : RecIdx) (taken : Bool) (priority : Fin 8) : Prop :=
  ∀ p : Fin 8, t.serviceLists[p] = s.serviceLists[p]
    ++ if taken = true ∧ serving s r = false ∧ waiting s r = false ∧ p = priority then [r] else []

/-- No change of a record has been reported (R193). -/
def Unreported (s t : State) : Prop := t.changeFlags = s.changeFlags ∧ t.seenMarks = s.seenMarks

/-- The record of a station that has entered LOST (R119, R120). -/
def lostStation (s : State) (fault : LastFault) (y : Station) : Station :=
  { y with
    state := .lost, lastFault := fault, resyncNeeded := false, resyncWait := none
    pollTimer := startTimer s.params.probePeriod, queue := [], coalesce := 0 }

/-- What a station's entry into LOST does beside its record (R119, R120): its slots complete STATION_LOST, `own` with
cancel requested CANCELLED (R59), its pending request is removed, and the change is reported. -/
def LostWithWork (s t : State) (r : RecIdx) (own : Option SlotIdx) : Prop :=
  (∀ k, k ∈ (s.station r).queue ∨ (s.slot k).state = .standingWait ∧ handleIndex (s.slot k).target = r →
    t.slot k = completed (if own = some k ∧ (s.slot k).cancelRequested = true then .cancelled else .stationLost)
      (s.slot k) ∧ t.completions[k] = true)
  ∧ (∀ k, ¬(k ∈ (s.station r).queue ∨ (s.slot k).state = .standingWait ∧ handleIndex (s.slot k).target = r) →
    t.slot k = s.slot k ∧ t.completions[k] = s.completions[k])
  ∧ (∀ p : Fin 8, t.serviceLists[p] = s.serviceLists[p].filter (· ≠ r)) ∧ Reported r s t

/-- The record of a station that has become VACANT (R3, R18, R31). -/
def vacated (y : Station) : Station :=
  { y with state := .vacant, generation := y.generation + 1, resyncNeeded := false, pollTimer := none }

/-- The slot of a standing read that rests until its next cycle (R98, R99). -/
def resting (x : Slot) : Slot :=
  { x with
    state := .standingWait, timer := startTimer x.period, segToggle := none, image := [], pendingStep := .first }

/-- The slot of a standing read whose cycle has failed (R99, steps 1 and 2). -/
def cycleFailed (x : Slot) : Slot :=
  { x with
    role1 := if x.role1 = .filling then .empty else x.role1, role2 := if x.role2 = .filling then .empty else x.role2
    cycleMisses := min 65535 (x.cycleMisses + 1) }

/-- The slot of a standing read whose cycle has ended successfully (R98, steps 1 to 3). -/
def cycleDone (x : Slot) : Slot :=
  let ended (role : Role) : Role := if role = .filling then .fresh else if role = .fresh then .seen else role
  { x with
    role1 := ended x.role1, role2 := ended x.role2, cycles := x.cycles + 1
    fill1 := if x.role1 = .filling then x.cycles + 1 else x.fill1
    fill2 := if x.role2 = .filling then x.cycles + 1 else x.fill2 }

/-- The group address of a group write (R35). -/
def groupOf (s : State) (n : SlotIdx) : Byte := (s.slot n).target.extractLsb' 0 8

/-- The entries `rest` of the group queue have been dispatched in turn (R91): those at the head with no trunk chosen
have completed NO_MEMBERS; the next, if there is one, is ACTIVE with its payload read and a copy offered to each chosen
trunk; the others wait as they were. `chosen` says which trunks the dispatch chooses for a group. -/
def Dispatched (s t : State) (chosen : Byte → TrunkId → Prop) (rest : List SlotIdx) : Prop :=
  ∃ passed kept, rest = passed ++ kept ∧ t.groupQueue = kept
    ∧ (∀ m ∈ passed, (∀ w, ¬chosen (groupOf s m) w)
        ∧ t.slot m = completed .noMembers (s.slot m) ∧ t.completions[m] = true)
    ∧ (∀ m ∈ kept, t.completions[m] = s.completions[m])
    ∧ (∀ m ∈ kept.tail, t.slot m = s.slot m)
    ∧ ∀ h, kept.head? = some h → ∃ a b : CopyState,
        t.slot h = { s.slot h with
          state := .active, copyA := a, copyB := b
          image := (List.range (s.slot h).length).map fun k => s.buffer.read ((s.slot h).offset + k) }
        ∧ (∃ w, chosen (groupOf s h) w)
        ∧ (chosen (groupOf s h) .a → a = .offered) ∧ (¬chosen (groupOf s h) .a → a = .unused)
        ∧ (chosen (groupOf s h) .b → b = .offered) ∧ (¬chosen (groupOf s h) .b → b = .unused)

/-- The group write `n` at the head of the group queue has completed as `z`, and the entries behind it have been
dispatched (R46, R91, R93). -/
def GroupWriteEnds (s t : State) (n : SlotIdx) (z : Slot) (chosen : Byte → TrunkId → Prop) (rest : List SlotIdx) :
    Prop :=
  t.slot n = z ∧ t.completions[n] = true ∧ Dispatched s t chosen rest

/-! ### The tick (R1) -/

/-- The timer expires at the next tick boundary (R1). -/
def LastTick (timer : Timer) : Prop := timer = some 0 ∨ timer = some 1

/-- The command is an event of the next tick boundary (R1, R182): the expiry of a timer that has its last tick to
count, or the execution of the accepted command. -/
def FallsDue (s : State) : Instr → Prop
  | .pollTimerExpiry r => LastTick (s.station r).pollTimer
  | .repeatTimerExpiry n => (s.slot n).state = .repeatWait ∧ LastTick (s.slot n).timer
  | .periodTimerExpiry n => (s.slot n).state = .standingWait ∧ LastTick (s.slot n).timer
  | .resyncWaitExpiry r => LastTick (s.station r).resyncWait
  | .guardTimerExpiry u => LastTick (s.trunk u).guardTimer
  | .powerOnClearEnd => LastTick s.port.clearTimer
  | .echoListenExpiry u => ∃ e, s.port.echo = some e ∧ e.trunk = u ∧ LastTick e.listen
  | .lineHoldExpiry u => LastTick (s.trunk u).lineHold
  | .replyWindowExpiry u => LastTick (s.trunk u).replyTimer
  | c => s.port.state = .busy ∧ s.port.echo = none ∧ c = commandOf s.port.command.toNat

/-! ### Laws of the device -/

/-- Buffer memory stands in its canonical form. -/
def BufferCanonical (s : State) : Prop := s.buffer.wf = true

/-- The interrupt line is asserted exactly while a cause is active and enabled (R195). -/
def LineLawful (s : State) : Prop := s.interruptLine = lineLevel s

/-- The completion set contains exactly the slots in COMPLETE (R192). -/
def CompletionSetExact (s : State) : Prop :=
  ∀ n : SlotIdx, s.completions[n] = true ↔ (s.slot n).state = .complete

/-- A COMPLETE slot holds the code it completed with (R46). -/
def CodesLawful (s : State) : Prop := ∀ n, (s.slot n).state = .complete → (s.slot n).code.isSome = true

/-- The byte counts of a slot (R37): neither passes the length, and while the exchange goes on the bytes
transferred do not pass the bytes done. -/
def SlotBytesLawful (x : Slot) : Prop :=
  x.bytesDone ≤ x.length ∧ x.bytesTransferred ≤ x.length
    ∧ (x.state = .active ∨ x.state = .repeatWait
          ∨ ((x.state = .queued ∨ x.state = .standingWait) ∧ x.kind ≠ .standingRead) →
        x.bytesTransferred ≤ x.bytesDone)

/-- Every slot's byte counts are lawful (R37). -/
def BytesLawful (s : State) : Prop := ∀ n, SlotBytesLawful (s.slot n)

/-- The buffer roles of a standing read (R94): at most one buffer is FILLING, at most one FRESH, at most one
HELD_BY_HOST; a buffer is FILLING exactly while a cycle has started and not ended, that is in ACTIVE. The ready mode
is STOP, so that no segment is skipped and the slot never waits for a repeat (R97); between cycles its next frame is
a first one. -/
def SlotRolesLawful (x : Slot) : Prop :=
  x.kind = .standingRead → x.state ≠ .free →
    x.readyMode = .stop ∧ x.state ≠ .repeatWait ∧ x.skipped = 0
    ∧ (x.state = .queued ∨ x.state = .standingWait → x.pendingStep = .first)
    ∧ (∀ role ∈ [Role.filling, .fresh, .heldByHost], ¬(x.role1 = role ∧ x.role2 = role))
    ∧ ((x.role1 = .filling ∨ x.role2 = .filling) ↔ x.state = .active)

/-- Every standing read's roles are lawful (R94). -/
def RolesLawful (s : State) : Prop := ∀ n, SlotRolesLawful (s.slot n)

/-- The in-service stack holds at most 8 entries, their priorities strictly increasing from bottom to top (R132);
the list has the top first. -/
def StackLawful (s : State) : Prop :=
  (s.serviceStack.map (·.priority)).Pairwise (fun above below => below < above) ∧ s.serviceStack.length ≤ 8

/-- How often a record stands on the pending lists and the in-service stack together. -/
def serviceEntries (s : State) (r : RecIdx) : Nat :=
  (s.serviceLists.toList.map (List.count r)).sum + (s.serviceStack.map (·.record)).count r

/-- A station appears at most once across the pending lists and the in-service stack (R130). -/
def ServiceOnce (s : State) : Prop := ∀ r, serviceEntries s r ≤ 1

/-- The coalesce count is 1 or more exactly while the station is pending, and the re-raise flag can be yes only while it
is in service (R130, Table 6-2). -/
def ServiceCountsLawful (s : State) : Prop :=
  ∀ r, (1 ≤ (s.station r).coalesce ↔ ∃ p : Fin 8, r ∈ s.serviceLists[p])
    ∧ ((s.station r).reRaise = true → ∃ e ∈ s.serviceStack, e.record = r)

/-- Every parameter lies in its range, and SUSPECT_AT is below LOST_AT (Table 9-4). -/
def ParametersLawful (s : State) : Prop :=
  (∀ id, 1 ≤ id → id ≤ 15 → paramInRange id (s.params.get id) = true) ∧ s.params.suspectAt < s.params.lostAt

/-- The address index (R4): an entry names a record exactly when the record is occupied and its address is the
entry's; an occupied record's address is a station address. -/
def IndexLawful (s : State) : Prop :=
  (∀ a r, s.indexOf a = some r ↔ (s.station r).state ≠ .vacant ∧ (s.station r).address = a)
    ∧ ∀ r, (s.station r).state ≠ .vacant → 1 ≤ (s.station r).address.toNat ∧ (s.station r).address.toNat ≤ 239

/-- The fields of an occupied record keep their ranges (Table 1-1, R5, R6, R9, R12). -/
def RecordLawful (x : Station) : Prop :=
  x.state ≠ .vacant →
    x.altTrunk ≠ some x.homeTrunk ∧ (x.resyncNeeded = true → x.state = .held) ∧ x.missCount ≤ 15
    ∧ x.groups.length ≤ 4 ∧ x.groups.Nodup ∧ ∀ g ∈ x.groups, 240 ≤ g.toNat ∧ g.toNat ≤ 254

/-- Every record's fields keep their ranges. -/
def RecordsLawful (s : State) : Prop := ∀ r, RecordLawful (s.station r)

/-- The trunk is the station's home trunk or its alternate trunk. -/
def TrunkOf (x : Station) (u : TrunkId) : Prop := u = x.homeTrunk ∨ x.altTrunk = some u

/-- An occupied record's current trunk is its home trunk or its alternate trunk (R6), and so is a trunk that has the
station on its poll-due list or carries its POLL (R110). -/
def CurrentTrunksLawful (s : State) : Prop :=
  (∀ r, (s.station r).state ≠ .vacant → TrunkOf (s.station r) (s.station r).curTrunk)
    ∧ ∀ u r, r ∈ (s.trunk u).pollDue ∨ s.flightOwner u = some (.poll r) → TrunkOf (s.station r) u

/-- A trunk that is not ONLINE has no frame in flight, its timers stopped and its lists empty (R154, R164, R165,
R174), and no character that acts on it (log 21). -/
def TrunkAtRest (x : Trunk) : Prop :=
  x.state ≠ .online →
    x.inFlight = none ∧ x.replyTimer = none ∧ x.guardTimer = none ∧ x.lineHold = none
    ∧ x.resyncList = [] ∧ x.pollDue = [] ∧ x.rxChar = false

/-- A line held after a character error is at the non-idle level (R148). -/
def HeldLineIsLow (x : Trunk) : Prop := x.rxHeld = true → x.rxIdle = false

/-- The states in which a station uses its current trunk (section 7.6, R172). -/
def usesTrunk (st : StationState) : Bool :=
  match st with
  | .enrolling | .active | .suspect | .held | .recovering => true
  | .vacant | .lost | .retiring => false

/-- Only ONLINE trunks carry station traffic: every other trunk is at rest, and the current trunk of a station that
uses it is ONLINE (section 7.6). A held line is at the non-idle level (R148). -/
def TrunksLawful (s : State) : Prop :=
  (∀ t, TrunkAtRest (s.trunk t) ∧ HeldLineIsLow (s.trunk t))
    ∧ ∀ r, usesTrunk (s.station r).state = true → (s.trunk (s.station r).curTrunk).state = .online

/-- An arbiter's order holds each of the three sources once (R161). -/
def ArbitersLawful (s : State) : Prop := ∀ t, (s.trunk t).order.Perm [.link, .group, .station]

/-- A station queue (R53): no slot stands in it twice; each is a station exchange of that station in QUEUED, ACTIVE
or REPEAT_WAIT; and one that is not QUEUED is the head. -/
def StationQueueLawful (s : State) (r : RecIdx) : Prop :=
  (s.station r).queue.Nodup ∧ ∀ n ∈ (s.station r).queue,
    (s.slot n).station = r ∧ (s.slot n).kind ≠ .groupWrite
    ∧ ((s.slot n).state = .queued
        ∨ ((s.slot n).state = .active ∨ (s.slot n).state = .repeatWait) ∧ (s.station r).queue.head? = some n)

/-- The group queue (R56): no slot stands in it twice; each is a GROUP_WRITE that is QUEUED or ACTIVE; and one that
is ACTIVE is the head. -/
def GroupQueueLawful (s : State) : Prop :=
  s.groupQueue.Nodup ∧ ∀ n ∈ s.groupQueue,
    (s.slot n).kind = .groupWrite
    ∧ ((s.slot n).state = .queued ∨ (s.slot n).state = .active ∧ s.groupQueue.head? = some n)

/-- The queues, and the number of standing reads (R51, R53, R56): besides the laws of the queues, a slot in
STANDING_WAIT is a standing read, a group write's ready mode is STOP (R36), and at most 8 slots hold standing
reads. -/
def QueuesLawful (s : State) : Prop :=
  (∀ r, StationQueueLawful s r) ∧ GroupQueueLawful s
    ∧ (∀ n, (s.slot n).state = .standingWait → (s.slot n).kind = .standingRead)
    ∧ (∀ n, (s.slot n).kind = .groupWrite → (s.slot n).readyMode = .stop)
    ∧ standingCount s ≤ 8

/-- What a frame in flight on a trunk says of its owner (R17, R43, R92, R154): an exchange frame's slot is ACTIVE at the
head of the queue of its station, whose current trunk this is and which is ACTIVE, SUSPECT, HELD or RETIRING; a
copy's group write is ACTIVE at the head of the group queue with that copy being sent; and a POLL or RESYNC is for an
occupied record. -/
def FlightLawful (s : State) (u : TrunkId) : FrameOwner → Prop
  | .exchange n r =>
    (s.slot n).state = .active ∧ (s.slot n).kind ≠ .groupWrite ∧ (s.slot n).station = r
      ∧ (s.station r).queue.head? = some n ∧ (s.station r).curTrunk = u
      ∧ ((s.station r).state = .active ∨ (s.station r).state = .suspect
          ∨ (s.station r).state = .held ∧ (s.station r).resyncNeeded = false ∨ (s.station r).state = .retiring)
  | .groupCopy n =>
    (s.slot n).state = .active ∧ s.groupQueue.head? = some n ∧ (s.slot n).copy u = .sending
  | .poll r => (s.station r).state ≠ .vacant
  | .resync r => (s.station r).state ≠ .vacant

/-- The frames in flight and the queues (R17, R53, R55, R111, R112, R120): each frame in flight agrees with its owner,
and no station has one on both trunks; a slot under way stands in its queue, and one in STANDING_WAIT belongs to a
station that is not VACANT, LOST or RETIRING; a VACANT or LOST record's queue is empty, and a RETIRING record has a
frame in flight and no other slot; and the link lists hold occupied records that are not RETIRING. -/
def FlightsLawful (s : State) : Prop :=
  (∀ u o, s.flightOwner u = some o → FlightLawful s u o)
    ∧ (∀ r, ¬(frameTo s .a r = true ∧ frameTo s .b r = true))
    ∧ (∀ n, (s.slot n).state = .queued ∨ (s.slot n).state = .active ∨ (s.slot n).state = .repeatWait →
        if (s.slot n).kind = .groupWrite then n ∈ s.groupQueue else n ∈ (s.station (s.slot n).station).queue)
    ∧ (∀ n, (s.slot n).state = .standingWait →
        (s.station (s.slot n).station).state ∉ [StationState.vacant, .lost, .retiring])
    ∧ (∀ r, (s.station r).state ∈ [StationState.vacant, .lost] → (s.station r).queue = [])
    ∧ (∀ r, (s.station r).state = .retiring →
        frameInFlight s r = true ∧ ∀ n ∈ (s.station r).queue, slotInFlight s n = true)
    ∧ ∀ u r, r ∈ (s.trunk u).resyncList ∨ r ∈ (s.trunk u).pollDue →
        (s.station r).state ∉ [StationState.vacant, .retiring]

/-- Counts that stop at a largest value do not pass it: coalesce count (R135), stray count (R159), attempts (R37), cycle
misses and overruns (R94). The miss count, which stops at 15 (R115), is in RecordLawful. -/
def CountsLawful (s : State) : Prop :=
  (∀ r, (s.station r).coalesce ≤ 255) ∧ (∀ t, (s.trunk t).strayCount ≤ 65535)
    ∧ ∀ n, (s.slot n).attempts ≤ 255 ∧ (s.slot n).cycleMisses ≤ 65535 ∧ (s.slot n).overruns ≤ 65535

end Sys2Proof.Machine
end

