-- ==== Sys2Proof/Certificates/Slice0/Obligations.lean ====
section
/-! DEFINITION. The statements for the provers, in the terms of Safety.lean.

Two conventions of the model stand behind most of them. A command of the port (ENROL to GET_PARAM, BAD_COMMAND) runs when
the port is BUSY with its code and, but for ECHO, a tick boundary has passed since its acceptance, and reads its arguments
from the snapshot (R181, R182, log 4): `Accepted` says so. Commands are taken one at a time from one queue (log 1). -/

open Sys2Proof Sys2Proof.Machine

/-! ### The step, the tick and the port -/

/-- Every command c and state s: the step with c at the front of the queue is c executed with the queue's rest. -/
def Obligations.StepRunsFrontCommand : Prop :=
  ∀ (s : State) (c : Instr) (rest : List Instr),
    step { s with pending := c :: rest } = exec c { s with pending := rest }

/-- On an empty queue an accepted ECHO that has not begun joins the queue, before any tick boundary (R167, R182, log 20), and so
do the arbiters that can take an offer (log 1). With neither, a tick boundary passes (log 1, log 2): every running timer
counts it, the accepted command has had its boundary, the expiries of the timers that have counted their last tick and the
accepted command's execution join the queue, and nothing else does, the execution standing last (R1, R182). The idle history
of the lines is carried on (log 12). -/
def Obligations.EmptyQueuePassesTick : Prop :=
  ∀ s : State, s.pending = [] →
    let counted (timer : Timer) : Timer := timer.map (· - 1)
    (EchoWaits s → step s = .next { s with pending := .echo :: readyArbiters s })
    ∧ (¬EchoWaits s → readyArbiters s ≠ [] → step s = .next { s with pending := readyArbiters s })
    ∧ (¬EchoWaits s → readyArbiters s = [] → ∃ t, step s = .next t
      ∧ (∀ r, t.station r = { s.station r with
          pollTimer := counted (s.station r).pollTimer, resyncWait := counted (s.station r).resyncWait })
      ∧ (∀ n, t.slot n = { s.slot n with timer := counted (s.slot n).timer })
      ∧ (∀ u, t.trunk u = { s.trunk u with
          replyTimer := counted (s.trunk u).replyTimer, guardTimer := counted (s.trunk u).guardTimer
          lineHold := counted (s.trunk u).lineHold, idleNew := false
          idleFor := if (s.trunk u).idleNew then (s.trunk u).idleFor
            else if (s.trunk u).rxIdle then min 128 ((s.trunk u).idleFor + 80) else 0 })
      ∧ t.port = { s.port with
          clearTimer := counted s.port.clearTimer, due := decide (s.port.state = .busy)
          echo := s.port.echo.map fun e => { e with listen := counted e.listen } }
      ∧ (∀ c, c ∈ t.pending ↔ FallsDue s c)
      ∧ (s.port.state = .busy → s.port.echo = none → t.pending.getLast? = some (commandOf s.port.command.toNat))
      ∧ t = { s with
          pending := t.pending, port := t.port, stations := t.stations, slots := t.slots, trunkA := t.trunkA
          trunkB := t.trunkB })

/-- A write of the command word is accepted in IDLE (R181), and until a tick boundary has passed no command but ECHO runs
(R182). That the row of such a command then changes nothing is the model's choice (log 4). In BUSY and INITIALIZING it is ignored and sets the overrun
flag, which a write of the port status word with the overrun bit 1 clears and one with that bit 0 leaves (R183). -/
def Obligations.CommandWriteIsAcceptedOrSetsOverrun : Prop :=
  ∀ (s : State) (v : Word),
    (s.port.state = .idle → ∃ t, exec (.commandWordWrite v) s = .next t
      ∧ t.port = { s.port with
          snapshot := s.port.args, state := .busy, code := .none, values := Vector.replicate 6 0, done := false
          command := v.extractLsb' 0 8, due := false }
      ∧ t.interruptLine = lineLevel t
      ∧ t = { s with port := t.port, interruptLine := t.interruptLine })
    ∧ (s.port.state ≠ .idle → ∀ c ∈ [Instr.commandWriteIgnored v, .commandWordWrite v],
      ∃ t, exec c s = .next t ∧ t.port = { s.port with overrun := true } ∧ t.interruptLine = lineLevel t
        ∧ t = { s with port := t.port, interruptLine := t.interruptLine })
    ∧ (s.port.due = false → ∀ code, code ≠ 18 → exec (commandOf code) s = .next s)
    ∧ ∃ t, exec (.overrunClear v) s = .next t
        ∧ t.port = { s.port with overrun := s.port.overrun && !v.getLsbD 3 } ∧ t.interruptLine = lineLevel t
        ∧ t = { s with port := t.port, interruptLine := t.interruptLine }

/-- A read of the result code word returns the code and clears the command-done flag (R184); a read of a stray count
word returns the count and sets it to 0 (R159). The bytes of a partial read stand in the low bytes (log 7). -/
def Obligations.ReadsReturnAndClear : Prop :=
  ∀ (s : State) (p : Part) (u : TrunkId),
    (∃ t, exec (.resultCodeRead p) s = .next t
      ∧ t.busRead = readPart p (BitVec.ofNat 32 (resultCodeNumber s.port.code))
      ∧ t.port = { s.port with done := false } ∧ t.interruptLine = lineLevel t
      ∧ t = { s with port := t.port, busRead := t.busRead, interruptLine := t.interruptLine })
    ∧ ∃ t, exec (.strayCountRead u p) s = .next t
      ∧ t.busRead = readPart p (BitVec.ofNat 32 (s.trunk u).strayCount)
      ∧ t.trunk u = { s.trunk u with strayCount := 0 } ∧ (∀ w, w ≠ u → t.trunk w = s.trunk w)
      ∧ t = { s with
          trunkA := t.trunkA, trunkB := t.trunkB, busRead := t.busRead, interruptLine := lineLevel s }

/-- A read of a change word returns its flags and marks as seen those that it returns set; a write of it clears the flags
written 1 that are marked, and their marks, and no others (R193). That a partial read marks the flags of the part it returns
alone is the model's reading (log 9), and that they stand in the low bytes its choice (log 7). -/
def Obligations.ChangeWordClearsOnlySeenFlags : Prop :=
  ∀ (s : State) (k : Fin 4) (p : Part) (v : Word),
    let reached (r : RecIdx) : Prop := r.val / 32 = k.val ∧ match p with
      | .word => True
      | .half high => r.val % 32 / 16 = if high then 1 else 0
      | .byte n => r.val % 32 / 8 = n.val
    (∃ t w, exec (.changeWordRead k p) s = .next t
      ∧ t.busRead = readPart p w ∧ (∀ r : RecIdx, r.val / 32 = k.val → w.getLsbD (r.val % 32) = s.changeFlags[r])
      ∧ (∀ r : RecIdx, reached r → t.seenMarks[r] = (s.seenMarks[r] || s.changeFlags[r]))
      ∧ (∀ r : RecIdx, ¬reached r → t.seenMarks[r] = s.seenMarks[r])
      ∧ t = { s with seenMarks := t.seenMarks, busRead := t.busRead, interruptLine := lineLevel s })
    ∧ ∃ t, exec (.changeWordWrite k v) s = .next t
      ∧ (∀ r : RecIdx, r.val / 32 = k.val → v.getLsbD (r.val % 32) = true → s.seenMarks[r] = true →
          t.changeFlags[r] = false ∧ t.seenMarks[r] = false)
      ∧ (∀ r : RecIdx, ¬(r.val / 32 = k.val ∧ v.getLsbD (r.val % 32) = true ∧ s.seenMarks[r] = true) →
          t.changeFlags[r] = s.changeFlags[r] ∧ t.seenMarks[r] = s.seenMarks[r])
      ∧ t.interruptLine = lineLevel t
      ∧ t = { s with
          changeFlags := t.changeFlags, seenMarks := t.seenMarks, interruptLine := t.interruptLine }

/-- A write of the trunk event word clears each flag whose bit is written 1 (R194); a write of the interrupt enable
mask replaces it, and the line follows in the same event (R195). -/
def Obligations.TrunkEventAndMaskWrites : Prop :=
  ∀ (s : State) (v : Word),
    (∃ t, exec (.trunkEventClear v) s = .next t
      ∧ t.trunkA = { s.trunkA with eventFlag := s.trunkA.eventFlag && !v.getLsbD 0 }
      ∧ t.trunkB = { s.trunkB with eventFlag := s.trunkB.eventFlag && !v.getLsbD 1 }
      ∧ t.interruptLine = lineLevel t
      ∧ t = { s with trunkA := t.trunkA, trunkB := t.trunkB, interruptLine := t.interruptLine })
    ∧ ∃ t, exec (.interruptEnableWrite v) s = .next t
      ∧ t.enableMask = v.extractLsb' 0 5
      ∧ (t.interruptLine = true ↔ ∃ k : Fin 5, causeBits s k = true ∧ v.getLsbD k.val = true)
      ∧ t = { s with enableMask := t.enableMask, interruptLine := t.interruptLine }

/-- A write of a halfword or a byte of the register window changes nothing; a write of a whole word is the write of
that word: an argument word is stored, a word with a row of its own acts as that row, and the rest ignore it
(R180, R188, R192, R195, R197). -/
def Obligations.RegisterWriteActsByWord : Prop :=
  ∀ (s : State) (off : BitVec 6) (v : Word),
    (∀ p, p ≠ Part.word → exec (.registerWrite off p v) s = .next s)
    ∧ (∀ k : Fin 6, off.toNat = k.val → ∃ t, exec (.registerWrite off .word v) s = .next t
        ∧ t.port = { s.port with args := s.port.args.set k v }
        ∧ t = { s with port := t.port, interruptLine := lineLevel s })
    ∧ (off = 6 → exec (.registerWrite off .word v) s = exec (.commandWordWrite v) s)
    ∧ (off = 14 → exec (.registerWrite off .word v) s = exec (.overrunClear v) s)
    ∧ (off = 15 → exec (.registerWrite off .word v) s = exec (.controllerReset v) s)
    ∧ (∀ k : Fin 4, off.toNat = 18 + k.val → exec (.registerWrite off .word v) s = exec (.changeWordWrite k v) s)
    ∧ (off = 22 → exec (.registerWrite off .word v) s = exec (.trunkEventClear v) s)
    ∧ (off = 24 → exec (.registerWrite off .word v) s = exec (.interruptEnableWrite v) s)
    ∧ ((7 ≤ off.toNat ∧ off.toNat ≤ 13) ∨ off = 16 ∨ off = 17 ∨ off = 23 ∨ 25 ≤ off.toNat →
        exec (.registerWrite off .word v) s = .next { s with interruptLine := lineLevel s })

/-- A write of the buffer window writes the aligned bytes of its size and no other byte, least significant byte
lowest; while the port is INITIALIZING it is ignored (R180, R189). The command's operand carries the data in its low bytes
(log 33). -/
def Obligations.BufferWindowWriteStoresAlignedBytes : Prop :=
  ∀ (s : State) (addr : BitVec 14) (size : Access) (v : Word), BufferCanonical s →
    (s.port.state = .initializing → exec (.bufferWindowWrite addr size v) s = .next s)
    ∧ (s.port.state ≠ .initializing →
        ∃ t, exec (.bufferWindowWrite addr size v) s = .next t
          ∧ (∀ k, k < accessBytes size → t.buffer.read (accessBase addr size + k) = v.extractLsb' (8 * k) 8)
          ∧ (∀ a, ¬(accessBase addr size ≤ a ∧ a < accessBase addr size + accessBytes size) →
              t.buffer.read a = s.buffer.read a)
          ∧ t = { s with buffer := t.buffer, interruptLine := lineLevel s })

/-- A write of the controller-reset word with bit 0 set puts every block in its controller-reset state and keeps
buffer memory, the parameters, the argument words and the enable mask; with bit 0 clear it is ignored (R190, R191, R33,
R64, R129, R147, R168, R196). -/
def Obligations.ControllerResetResetsEveryBlock : Prop :=
  ∀ (s : State) (v : Word),
    (v.getLsbD 0 = false → exec (.controllerReset v) s = .next { s with interruptLine := lineLevel s })
    ∧ (v.getLsbD 0 = true → ∃ t, exec (.controllerReset v) s = .next t
      ∧ t.port = { s.port with
          state := if s.port.state = .initializing then .initializing else .idle
          code := .none, values := Vector.replicate 6 0, done := false, overrun := false
          snapshot := Vector.replicate 6 0, command := 0, echo := none, due := false }
      ∧ (∀ r, (t.station r).state = .vacant
          ∧ (t.station r).generation
              = (if (s.station r).state = .vacant then (s.station r).generation else (s.station r).generation + 1)
          ∧ (t.station r).pollTimer = none ∧ (t.station r).resyncWait = none ∧ (t.station r).resyncRetries = 0
          ∧ (t.station r).resyncRepeats = 0 ∧ (t.station r).queue = [] ∧ (t.station r).coalesce = 0
          ∧ (t.station r).reRaise = false)
      ∧ (∀ a, t.indexOf a = none)
      ∧ (∀ n, (t.slot n).state = .free ∧ (t.slot n).timer = none ∧ (t.slot n).cancelRequested = false)
      ∧ t.groupQueue = [] ∧ (∀ p : Fin 8, t.serviceLists[p] = []) ∧ t.serviceStack = []
      ∧ (∀ u, (t.trunk u).state = .disabled ∧ (t.trunk u).inFlight = none ∧ (t.trunk u).replyTimer = none
          ∧ (t.trunk u).guardTimer = none ∧ (t.trunk u).lineHold = none ∧ (t.trunk u).strayCount = 0
          ∧ (t.trunk u).order = [.link, .group, .station] ∧ (t.trunk u).lastServed = 127
          ∧ (t.trunk u).rate = (s.trunk u).rate ∧ (t.trunk u).resyncList = [] ∧ (t.trunk u).pollDue = []
          ∧ (t.trunk u).eventFlag = false)
      ∧ (∀ n : SlotIdx, t.completions[n] = false)
      ∧ (∀ r : RecIdx, t.changeFlags[r] = false ∧ t.seenMarks[r] = false)
      ∧ t.interruptLine = false ∧ t.buffer = s.buffer ∧ t.enableMask = s.enableMask)

/-- The power-on reset input puts every block in its power-on state and the port in INITIALIZING; its release starts
the two ticks of the clear; the clear's end leaves every byte of buffer memory 0 and the port IDLE (R32, R64, R129,
R147, R168, R179, R196), at the tick boundary its timer expires at and no sooner (R1). The model's choices: that the input's
assertion stops the clear's timer (log 14), that the receive inputs keep their levels and idle history, and a held line
stays held (log 13), and the values of the record's address, the slot fields and the rate in use that State.reset names and
the spec does not (log 17). -/
def Obligations.PowerOnResetAndClear : Prop :=
  ∀ s : State,
    (∃ t, exec .powerOnReset s = .next t
      ∧ t.port = { Port.reset with resetHeld := true, clearTimer := none }
      ∧ (∀ r, t.station r = State.reset.station r) ∧ (∀ a, t.indexOf a = none)
      ∧ (∀ n, t.slot n = State.reset.slot n) ∧ t.groupQueue = [] ∧ (∀ p : Fin 8, t.serviceLists[p] = [])
      ∧ t.serviceStack = []
      ∧ (∀ u, t.trunk u = { State.reset.trunk u with
            rxIdle := (s.trunk u).rxIdle, idleFor := (s.trunk u).idleFor, idleNew := (s.trunk u).idleNew
            rxHeld := (s.trunk u).rxHeld })
      ∧ (∀ n : SlotIdx, t.completions[n] = false)
      ∧ (∀ r : RecIdx, t.changeFlags[r] = false ∧ t.seenMarks[r] = false)
      ∧ t.enableMask = 0 ∧ t.interruptLine = false)
    ∧ (s.port.resetHeld = true → ∃ t, exec .powerOnResetRelease s = .next t
        ∧ t.port = { s.port with resetHeld := false, clearTimer := some 2 }
        ∧ t = { s with port := t.port, interruptLine := lineLevel s })
    ∧ (s.port.clearTimer ≠ some 0 → exec .powerOnClearEnd s = .next s)
    ∧ (s.port.state = .initializing → s.port.clearTimer = some 0 →
        ∃ t, exec .powerOnClearEnd s = .next t
          ∧ (∀ a, t.buffer.read a = 0) ∧ t.port = { s.port with state := .idle, clearTimer := none }
          ∧ t = { s with buffer := t.buffer, port := t.port, interruptLine := lineLevel s })

/-- SET_PARAM makes its four checks in order, and otherwise stores the value and returns the one before (R185);
GET_PARAM returns a parameter's present value and changes nothing, and refuses an identifier that names none
(R186). -/
def Obligations.ParametersAreSetAndRead : Prop :=
  ∀ s : State,
    let id := (argumentByte s 0 0).toNat
    let v := argumentHalf s 1
    let checks : List (Bool × ResultCode) :=
      [ (decide ¬(1 ≤ id ∧ id ≤ 15), .badArgument),
        (!paramInRange id v, .badArgument),
        (decide (id = 10 ∧ s.params.lostAt ≤ v ∨ id = 11 ∧ v ≤ s.params.suspectAt), .badArgument),
        (decide (id = 14 ∧ s.trunkA.state ≠ .disabled ∨ id = 15 ∧ s.trunkB.state ≠ .disabled), .trunkState) ]
    (Accepted s 19 →
      (∀ c, firstFailure checks = some c → Refused .setParam s c)
      ∧ (firstFailure checks = none →
          ∃ t p, exec .setParam s = .next t
            ∧ Ends { s with port := { s.port with params := p } } t .ok [BitVec.ofNat 32 (s.params.get id)]
            ∧ (∀ j, 1 ≤ j → j ≤ 15 → p.get j = if j = id then v else s.params.get j)
            ∧ t = { s with port := t.port, interruptLine := t.interruptLine }))
    ∧ (Accepted s 20 →
        (¬(1 ≤ id ∧ id ≤ 15) → Refused .getParam s .badArgument)
        ∧ (1 ≤ id ∧ id ≤ 15 →
            ∃ t, exec .getParam s = .next t ∧ Ends s t .ok [BitVec.ofNat 32 (s.params.get id)]
              ∧ t = { s with port := t.port, interruptLine := t.interruptLine }))

/-- A command code that names none of the 20 commands ends with BAD_COMMAND and reaches no block (R182, R197). -/
def Obligations.UnknownCodeEndsBadCommand : Prop :=
  ∀ s : State, Accepted s s.port.command.toNat → (s.port.command = 0 ∨ 21 ≤ s.port.command.toNat) →
    ∃ t, exec .badCommand s = .next t ∧ Ends s t .badCommand []
      ∧ t = { s with port := t.port, interruptLine := t.interruptLine }

/-! ### The Station Directory -/

/-- An ENROL whose arguments are good takes the VACANT record with the lowest index, fills its fields, maps the address
to it, and chooses its trunk and first state: ENROLLING with a RESYNC requested on the home trunk or else the alternate,
or LOST with no trunk ONLINE (R20, R21, Table 1-1). -/
def Obligations.EnrolFillsLowestVacantRecord : Prop :=
  ∀ (s : State) (r : RecIdx) (home : TrunkId) (alt : Option TrunkId) (pollClass : Fin 4) (priority : Fin 8)
    (armed : Bool), Accepted s 1 →
    1 ≤ (argumentByte s 0 0).toNat → (argumentByte s 0 0).toNat ≤ 239 → s.indexOf (argumentByte s 0 0) = none →
    (argumentByte s 0 1).toNat = trunkCode home → (argumentByte s 0 2).toNat = altTrunkCode alt → alt ≠ some home →
    badGroups (groupBytes s 2) = false → (argumentByte s 0 3).toNat = pollClass.val →
    (argumentByte s 1 0).toNat = priority.val → (argumentByte s 1 2).toNat = flagCode armed →
    (s.station r).state = .vacant → (∀ q, q < r → (s.station q).state ≠ .vacant) →
    let chosen := if (s.trunk home).state = .online then some home
      else alt.filter fun u => (s.trunk u).state = .online
    let entered := if chosen.isSome then StationState.enrolling else .lost
    ∃ t, exec .enrol s = .next t
      ∧ Ends s t .ok [handleWord r (s.station r).generation, BitVec.ofNat 32 (stationStateCode entered)]
      ∧ t.station r = { s.station r with
          address := argumentByte s 0 0, state := entered, homeTrunk := home, altTrunk := alt
          curTrunk := chosen.getD home, pollClass := pollClass, groups := (groupBytes s 2).filter (· ≠ 0)
          priority := priority, vector := argumentByte s 1 1, armed := armed, nextToggle := false, missCount := 0
          lastFault := if chosen.isSome then .none else .trunkDown, lastStatus := none, resyncNeeded := false
          pollTimer := if chosen.isSome then none else startTimer s.params.probePeriod
          resyncRetries := 0, resyncRepeats := 0, resyncWait := none, queue := [] }
      ∧ OtherStations r s t ∧ Reported r s t
      ∧ (∀ b, t.indexOf b = if b = argumentByte s 0 0 then some r else s.indexOf b)
      ∧ (∀ u, t.trunk u = { s.trunk u with
          resyncList := if chosen = some u then listed (s.trunk u).resyncList r else (s.trunk u).resyncList })
      ∧ t = { s with
          port := t.port, stations := t.stations, index := t.index, trunkA := t.trunkA, trunkB := t.trunkB
          changeFlags := t.changeFlags, seenMarks := t.seenMarks, interruptLine := t.interruptLine }

/-- ENROL, INSPECT, MODIFY, HOLD and RESUME make their checks in order, and RETIRE and MOVE check their handle first; the
first check that fails is the result, and a refused command changes nothing (R2, R19, R23, R24, R28, R29, R30, R177). That
check 5 of R24 counts any poll of the station is the model's reading (log 30), and that a group byte from 1 to 239 is refused,
against R5's example, its choice (log 36). -/
def Obligations.DirectoryCommandsCheckInOrder : Prop :=
  ∀ (s : State) (c : ResultCode),
    let a := (argumentByte s 0 0).toNat
    let x := s.station (handleIndex (handleArgument s))
    let mask := argumentByte s 0 2
    let waits (u : TrunkId) : Prop := handleIndex (handleArgument s) ∈ (s.trunk u).pollDue
      ∨ (s.trunk u).inFlight.map (·.owner) = some (.poll (handleIndex (handleArgument s)))
    (Accepted s 1 →
      firstFailure
        [ (decide (a = 0 ∨ 240 ≤ a), .badArgument),
          (decide (s.indexOf (argumentByte s 0 0) ≠ none), .addressInUse),
          (decide (1 < (argumentByte s 0 1).toNat ∨ 2 < (argumentByte s 0 2).toNat
            ∨ argumentByte s 0 2 = argumentByte s 0 1), .badArgument),
          (badGroups (groupBytes s 2), .badArgument),
          (decide (3 < (argumentByte s 0 3).toNat ∨ 7 < (argumentByte s 1 0).toNat ∨ 1 < (argumentByte s 1 2).toNat),
            .badArgument),
          (decide (∀ r, (s.station r).state ≠ .vacant), .directoryFull) ] = some c →
      Refused .enrol s c)
    ∧ (Accepted s 3 → firstFailure (handleChecks s (handleArgument s)) = some c → Refused .inspect s c)
    ∧ (Accepted s 4 →
        firstFailure (handleChecks s (handleArgument s) ++
          [ (decide (x.state = .retiring), .stationState),
            (decide (mask.extractLsb' 0 6 = 0), .badArgument),
            (mask.getLsbD 0 && decide (3 < (argumentByte s 1 0).toNat)
              || mask.getLsbD 1 && badGroups (groupBytes s 3)
              || mask.getLsbD 2 && decide (7 < (argumentByte s 1 1).toNat)
              || mask.getLsbD 4 && decide (1 < (argumentByte s 1 3).toNat)
              || mask.getLsbD 5 && decide (2 < (argumentByte s 2 0).toNat
                ∨ (argumentByte s 2 0).toNat = trunkCode x.homeTrunk), .badArgument),
            (mask.getLsbD 5 && decide ((argumentByte s 2 0).toNat ≠ altTrunkCode x.altTrunk)
              && (decide (x.altTrunk = some .a ∧ (x.curTrunk = .a ∨ waits .a))
                || decide (x.altTrunk = some .b ∧ (x.curTrunk = .b ∨ waits .b))), .trunkInUse) ]) = some c →
        Refused .modify s c)
    ∧ (Accepted s 5 →
        firstFailure (handleChecks s (handleArgument s) ++
          [(decide (x.state ≠ .active ∧ x.state ≠ .suspect), .stationState)]) = some c →
        Refused .hold s c)
    ∧ (Accepted s 6 →
        firstFailure (handleChecks s (handleArgument s) ++ [(decide (x.state ≠ .held), .stationState)]) = some c →
        Refused .resume s c)
    ∧ (Accepted s 7 → firstFailure (handleChecks s (handleArgument s)) = some c → Refused .retire s c)
    ∧ (Accepted s 8 → firstFailure (handleChecks s (handleArgument s)) = some c → Refused .move s c)

/-- FIND returns the handle and the state of the record an address maps to, and changes nothing; an address that is no
station address and one that maps to no record are refused (R22). -/
def Obligations.FindReturnsHandle : Prop :=
  ∀ s : State, Accepted s 2 →
    let a := argumentByte s 0 0
    ((a = 0 ∨ 240 ≤ a.toNat) → Refused .find s .badArgument)
    ∧ (1 ≤ a.toNat ∧ a.toNat ≤ 239 → s.indexOf a = none → Refused .find s .noSuchAddress)
    ∧ (1 ≤ a.toNat ∧ a.toNat ≤ 239 → ∀ r, s.indexOf a = some r →
        ∃ t, exec .find s = .next t
          ∧ Ends s t .ok [handleWord r (s.station r).generation,
              BitVec.ofNat 32 (stationStateCode (s.station r).state)]
          ∧ t = { s with port := t.port, interruptLine := t.interruptLine })

/-- INSPECT returns every field of the record in the layout of Table 11-6 and changes nothing; a field that is absent is
reported with its flag clear and a byte of no meaning, which the model leaves free (R23, log 8). -/
def Obligations.InspectReportsRecord : Prop :=
  ∀ (s : State) (r : RecIdx), Accepted s 3 → Names s (handleArgument s) r →
    ∃ (t : State) (noTrunk noStatus : Byte), exec .inspect s = .next t
      ∧ (let x := s.station r
         Ends s t .ok
          [ packBytes x.address (BitVec.ofNat 8 (stationStateCode x.state)) (BitVec.ofNat 8 (trunkCode x.homeTrunk))
              (BitVec.ofNat 8 (trunkCode x.curTrunk)),
            packBytes ((x.altTrunk.map fun u => BitVec.ofNat 8 (trunkCode u)).getD noTrunk)
              (BitVec.ofBoolListLE [x.altTrunk.isSome, x.lastStatus.isSome, x.armed, x.resyncNeeded, x.nextToggle,
                false, false, false])
              (BitVec.ofNat 8 x.pollClass.val) (BitVec.ofNat 8 x.priority.val),
            packBytes x.vector (BitVec.ofNat 8 x.missCount) (BitVec.ofNat 8 (lastFaultCode x.lastFault))
              (x.lastStatus.getD noStatus),
            packBytes (BitVec.ofNat 8 x.groups.length) (BitVec.ofNat 8 x.queue.length) 0 0,
            packBytes (x.groups.getD 0 0) (x.groups.getD 1 0) (x.groups.getD 2 0) (x.groups.getD 3 0),
            handleWord r x.generation ])
      ∧ t = { s with port := t.port, freeCount := t.freeCount, interruptLine := t.interruptLine }

/-- A MODIFY that passes its checks changes exactly the selected fields, moves a pending request to the tail of its new
priority's list, and on a disarm removes the request and clears the count and the re-raise flag; it reports no change
(R24, R25, R26, R27). That no poll of the station may stand on the alternate trunk is the model's reading (log 30). -/
def Obligations.ModifyChangesSelectedFields : Prop :=
  ∀ (s : State) (r : RecIdx) (pollClass : Fin 4) (priority : Fin 8) (armed : Bool) (alt : Option TrunkId),
    Accepted s 4 → Names s (handleArgument s) r → (s.station r).state ≠ .retiring →
    let x := s.station r
    let sel (k : Nat) : Bool := (argumentByte s 0 2).getLsbD k
    (∃ k, k < 6 ∧ sel k = true) →
    (sel 0 = true → (argumentByte s 1 0).toNat = pollClass.val) →
    (sel 1 = true → badGroups (groupBytes s 3) = false) →
    (sel 2 = true → (argumentByte s 1 1).toNat = priority.val) →
    (sel 4 = true → (argumentByte s 1 3).toNat = flagCode armed) →
    (sel 5 = true → (argumentByte s 2 0).toNat = altTrunkCode alt ∧ alt ≠ some x.homeTrunk) →
    (sel 5 = true → alt ≠ x.altTrunk → ∀ u, x.altTrunk = some u →
      x.curTrunk ≠ u ∧ r ∉ (s.trunk u).pollDue ∧ (s.trunk u).inFlight.map (·.owner) ≠ some (.poll r)) →
    let disarm := sel 4 && x.armed && !armed
    let moves : Prop := sel 2 = true ∧ x.priority ≠ priority ∧ ∃ q : Fin 8, r ∈ s.serviceLists[q]
    ∃ t, exec .modify s = .next t ∧ Ends s t .ok []
      ∧ t.station r = { x with
          pollClass := if sel 0 then pollClass else x.pollClass
          groups := if sel 1 then (groupBytes s 3).filter (· ≠ 0) else x.groups
          priority := if sel 2 then priority else x.priority
          vector := if sel 3 then argumentByte s 1 2 else x.vector
          armed := if sel 4 then armed else x.armed
          altTrunk := if sel 5 then alt else x.altTrunk
          coalesce := if disarm then 0 else x.coalesce
          reRaise := if disarm then false else x.reRaise }
      ∧ OtherStations r s t
      ∧ (∀ q : Fin 8,
          (disarm = true → t.serviceLists[q] = s.serviceLists[q].filter (· ≠ r))
          ∧ (disarm = false → moves →
              t.serviceLists[q] = s.serviceLists[q].filter (· ≠ r) ++ if q = priority then [r] else [])
          ∧ (disarm = false → ¬moves → t.serviceLists[q] = s.serviceLists[q]))
      ∧ t = { s with
          port := t.port, stations := t.stations, serviceLists := t.serviceLists, interruptLine := t.interruptLine }

/-- HOLD of an ACTIVE or SUSPECT station makes it HELD, stops its poll timer, takes it off the poll-due lists, makes
resync needed no and reports the change; in every other occupied state it is refused (R28). -/
def Obligations.HoldStopsService : Prop :=
  ∀ (s : State) (r : RecIdx), Accepted s 5 → Names s (handleArgument s) r →
    let x := s.station r
    (x.state ≠ .active ∧ x.state ≠ .suspect → Refused .hold s .stationState)
    ∧ (x.state = .active ∨ x.state = .suspect →
        ∃ t, exec .hold s = .next t ∧ Ends s t .ok []
          ∧ t.station r = { x with state := .held, pollTimer := none, resyncNeeded := false }
          ∧ OtherStations r s t ∧ Reported r s t
          ∧ (∀ u, t.trunk u = { s.trunk u with pollDue := (s.trunk u).pollDue.filter (· ≠ r) })
          ∧ t = { s with
              port := t.port, stations := t.stations, trunkA := t.trunkA, trunkB := t.trunkB
              changeFlags := t.changeFlags, seenMarks := t.seenMarks, interruptLine := t.interruptLine })

/-- RESUME of a HELD station chooses RECOVERING with a RESYNC requested, ACTIVE, or SUSPECT, starts the poll timer in the
last two, makes resync needed no and returns the new state; in every other occupied state it is refused (R29). -/
def Obligations.ResumeChoosesState : Prop :=
  ∀ (s : State) (r : RecIdx), Accepted s 6 → Names s (handleArgument s) r →
    let x := s.station r
    let entered : StationState :=
      if x.resyncNeeded then .recovering else if x.missCount < s.params.suspectAt then .active else .suspect
    (x.state ≠ .held → Refused .resume s .stationState)
    ∧ (x.state = .held →
        ∃ t, exec .resume s = .next t ∧ Ends s t .ok [BitVec.ofNat 32 (stationStateCode entered)]
          ∧ t.station r = { x with
              state := entered, resyncNeeded := false
              pollTimer := if entered = .active then startTimer (s.params.get (1 + x.pollClass.val))
                else if entered = .suspect then startTimer s.params.pollPeriod0 else x.pollTimer
              resyncRetries := if entered = .recovering then 0 else x.resyncRetries
              resyncRepeats := if entered = .recovering then 0 else x.resyncRepeats
              resyncWait := if entered = .recovering then none else x.resyncWait }
          ∧ OtherStations r s t ∧ Reported r s t
          ∧ (∀ u, t.trunk u = { s.trunk u with
              resyncList := if entered = .recovering ∧ u = x.curTrunk then listed (s.trunk u).resyncList r
                else (s.trunk u).resyncList })
          ∧ t = { s with
              port := t.port, stations := t.stations, trunkA := t.trunkA, trunkB := t.trunkB
              changeFlags := t.changeFlags, seenMarks := t.seenMarks, interruptLine := t.interruptLine })

/-- RETIRE makes its checks in order; then it completes RETIRED every slot of the station's queue with no frame in flight
and its standing reads at rest, removes its service request, takes it off every list, and makes the record VACANT with
its generation advanced, or RETIRING while a frame for it is in flight (R30, R31). -/
def Obligations.RetireVacatesOrWaits : Prop :=
  ∀ (s : State) (r : RecIdx), Accepted s 7 → Names s (handleArgument s) r →
    let x := s.station r
    (x.state = .retiring → Refused .retire s .stationState)
    ∧ (x.state ≠ .retiring → (∃ e ∈ s.serviceStack, e.record = r) → Refused .retire s .inService)
    ∧ (x.state ≠ .retiring → (∀ e ∈ s.serviceStack, e.record ≠ r) → QueuesLawful s →
        let inQueue := x.queue.filter fun n => !slotInFlight s n
        let atRest := allSlots.filter fun n => decide ((s.slot n).state = .standingWait ∧ (s.slot n).station = r)
        let stays := frameInFlight s r
        ∃ t, exec .retire s = .next t
          ∧ Ends s t (if stays then .retiring else .retired) [BitVec.ofNat 32 (inQueue.length + atRest.length)]
          ∧ (∀ n, t.slot n = if n ∈ inQueue ∨ n ∈ atRest then completed .retired (s.slot n) else s.slot n)
          ∧ (∀ n : SlotIdx, t.completions[n] = (s.completions[n] || decide (n ∈ inQueue ∨ n ∈ atRest)))
          ∧ t.station r = { x with
              state := if stays then .retiring else .vacant
              generation := if stays then x.generation else x.generation + 1
              resyncNeeded := false, pollTimer := none, resyncWait := none
              queue := x.queue.filter fun n => slotInFlight s n
              coalesce := 0, reRaise := false }
          ∧ OtherStations r s t ∧ Reported r s t
          ∧ (∀ b, t.indexOf b = if stays = false ∧ b = x.address then none else s.indexOf b)
          ∧ (∀ p : Fin 8, t.serviceLists[p] = s.serviceLists[p].filter (· ≠ r))
          ∧ (∀ u, t.trunk u = { s.trunk u with
              resyncList := (s.trunk u).resyncList.filter (· ≠ r), pollDue := (s.trunk u).pollDue.filter (· ≠ r) })
          ∧ t = { s with
              port := t.port, stations := t.stations, index := t.index, slots := t.slots
              serviceLists := t.serviceLists, trunkA := t.trunkA, trunkB := t.trunkB, completions := t.completions
              changeFlags := t.changeFlags, seenMarks := t.seenMarks, interruptLine := t.interruptLine })

/-- MOVE makes its checks in order; a target that is the current trunk changes nothing; otherwise the current trunk
becomes the target, an ACTIVE or SUSPECT station enters RECOVERING with a RESYNC requested there, and a HELD one stays
HELD with resync needed (R177, R178). -/
def Obligations.MoveChangesCurrentTrunk : Prop :=
  ∀ (s : State) (r : RecIdx), Accepted s 8 → Names s (handleArgument s) r →
    let x := s.station r
    let b := (argumentByte s 0 2).toNat
    let mayMove : Prop := x.state = .active ∨ x.state = .suspect ∨ x.state = .held
    (1 < b → Refused .move s .badArgument)
    ∧ (b ≤ 1 → ¬mayMove → Refused .move s .stationState)
    ∧ ∀ u, b = trunkCode u → mayMove →
        (u = x.curTrunk → ∃ t, exec .move s = .next t
          ∧ Ends s t .ok [BitVec.ofNat 32 (stationStateCode x.state)]
          ∧ t = { s with port := t.port, interruptLine := t.interruptLine })
        ∧ (u ≠ x.curTrunk → ∀ c,
            firstFailure
              [ (decide (u ≠ x.homeTrunk ∧ some u ≠ x.altTrunk), .trunkState),
                (decide ((s.trunk u).state ≠ .online), .trunkState),
                (frameInFlight s r, .stationBusy) ] = some c →
            Refused .move s c)
        ∧ (u ≠ x.curTrunk → (u = x.homeTrunk ∨ some u = x.altTrunk) → (s.trunk u).state = .online →
            frameInFlight s r = false →
            let entered : StationState := if x.state = .held then .held else .recovering
            ∃ t, exec .move s = .next t ∧ Ends s t .ok [BitVec.ofNat 32 (stationStateCode entered)]
              ∧ (x.state = .held → t.station r = { x with curTrunk := u, resyncNeeded := true })
              ∧ (x.state ≠ .held → t.station r = { x with
                  curTrunk := u, state := .recovering, pollTimer := none, resyncRetries := 0, resyncRepeats := 0
                  resyncWait := none })
              ∧ OtherStations r s t ∧ Reported r s t
              ∧ (∀ w, t.trunk w = { s.trunk w with
                  pollDue := if x.state = .held then (s.trunk w).pollDue else (s.trunk w).pollDue.filter (· ≠ r)
                  resyncList := if x.state ≠ .held ∧ w = u then listed (s.trunk w).resyncList r
                    else (s.trunk w).resyncList })
              ∧ t = { s with
                  port := t.port, stations := t.stations, trunkA := t.trunkA, trunkB := t.trunkB
                  changeFlags := t.changeFlags, seenMarks := t.seenMarks, interruptLine := t.interruptLine })

/-! ### Exchange slots -/

/-- SUBMIT makes its checks in the order of R48, and the first that fails is the result; a refused SUBMIT changes nothing
(R48, R49, R50, R51). -/
def Obligations.SubmitChecksInOrder : Prop :=
  ∀ (s : State) (c : ResultCode), Accepted s 9 → firstFailure (submitChecks s) = some c → Refused .submit s c

/-- A SUBMIT of a station kind that passes its checks fills the FREE slot with the lowest number, QUEUED, appends it to
its station's queue, and returns its number and the number of entries ahead of it (R52, R36, R94). -/
def Obligations.SubmitQueuesStationExchange : Prop :=
  ∀ (s : State) (n : SlotIdx) (kind : ExchangeKind) (mode : ReadyMode), Accepted s 9 →
    kindOf (argumentByte s 0 0).toNat = some kind → kind ≠ .groupWrite →
    readyModeOf (argumentByte s 0 1).toNat = some mode → firstFailure (submitChecks s) = none →
    (s.slot n).state = .free → (∀ m, m < n → (s.slot m).state ≠ .free) →
    let r := handleIndex (targetArgument s)
    ∃ t, exec .submit s = .next t
      ∧ Ends s t .ok [BitVec.ofNat 32 n.val, BitVec.ofNat 32 (s.station r).queue.length]
      ∧ t.slot n = submitted s kind mode ∧ OtherSlots n s t
      ∧ t.station r = { s.station r with queue := (s.station r).queue ++ [n] } ∧ OtherStations r s t
      ∧ t = { s with
          port := t.port, stations := t.stations, slots := t.slots, interruptLine := t.interruptLine }

/-- A GROUP_WRITE that passes its checks joins the group queue; behind an ACTIVE head it waits QUEUED, and at the head of
an empty queue it is dispatched: with no trunk chosen it completes NO_MEMBERS, else it becomes ACTIVE with its payload
read and a copy offered to each chosen trunk (R52, R91). -/
def Obligations.SubmitDispatchesGroupWrite : Prop :=
  ∀ (s : State) (n : SlotIdx), Accepted s 9 →
    (argumentByte s 0 0).toNat = 5 → firstFailure (submitChecks s) = none →
    (s.slot n).state = .free → (∀ m, m < n → (s.slot m).state ≠ .free) →
    let x := submitted s .groupWrite .stop
    let group := (targetArgument s).extractLsb' 0 8
    let ends (t : State) : Prop := exec .submit s = .next t
      ∧ Ends s t .ok [BitVec.ofNat 32 n.val, BitVec.ofNat 32 s.groupQueue.length] ∧ OtherSlots n s t
    (∀ head, s.groupQueue.head? = some head → head ≠ n → (s.slot head).state = .active →
      ∃ t, ends t ∧ t.slot n = x ∧ t.groupQueue = s.groupQueue ++ [n]
        ∧ t = { s with port := t.port, slots := t.slots, groupQueue := t.groupQueue, interruptLine := t.interruptLine })
    ∧ (s.groupQueue = [] → ¬ChosenFor s group .a → ¬ChosenFor s group .b →
        ∃ t, ends t ∧ t.slot n = completed .noMembers x
          ∧ t.completions = s.completions.set n true
          ∧ t = { s with
              port := t.port, slots := t.slots, completions := t.completions, interruptLine := t.interruptLine })
    ∧ (s.groupQueue = [] → (ChosenFor s group .a ∨ ChosenFor s group .b) →
        ∃ t a b, ends t
          ∧ t.slot n = { x with
              state := .active, image := (List.range x.length).map fun k => s.buffer.read (x.offset + k)
              copyA := a, copyB := b }
          ∧ (ChosenFor s group .a → a = .offered) ∧ (¬ChosenFor s group .a → a = .unused)
          ∧ (ChosenFor s group .b → b = .offered) ∧ (¬ChosenFor s group .b → b = .unused)
          ∧ t.groupQueue = [n]
          ∧ t = { s with
              port := t.port, slots := t.slots, groupQueue := t.groupQueue, interruptLine := t.interruptLine })

/-- CANCEL checks its slot number in order; a refused CANCEL changes nothing. Of a station exchange: a COMPLETE slot is refused; a slot with its frame in flight takes cancel requested; any
other completes CANCELLED and leaves its queue, and where a retry was pending its segment is in doubt, so that an ACTIVE
or SUSPECT station resynchronises and a HELD one needs to (R34, R57, R58, R59, R76). -/
def Obligations.CancelEndsStationExchange : Prop :=
  ∀ s : State, Accepted s 10 → (∀ c, firstFailure (slotChecks s) = some c → Refused .cancel s c) ∧
    ∀ n : SlotIdx, n.val = (argumentByte s 0 0).toNat → (s.slot n).state ≠ .free →
    let x := s.slot n
    let r := handleIndex x.target
    let y := s.station r
    (x.state = .complete → Refused .cancel s .alreadyComplete)
    ∧ (x.kind ≠ .groupWrite → x.state ≠ .complete → slotInFlight s n = true →
        ∃ t, exec .cancel s = .next t ∧ Ends s t .cancelPending []
          ∧ t.slot n = { x with cancelRequested := true } ∧ OtherSlots n s t
          ∧ t = { s with port := t.port, slots := t.slots, interruptLine := t.interruptLine })
    ∧ (x.kind ≠ .groupWrite → x.state ≠ .complete → slotInFlight s n = false →
        let doubt := decide (x.state = .active) && (x.pendingStep matches .retry _)
        let recovers := doubt && decide (y.state = .active ∨ y.state = .suspect)
        ∃ t, exec .cancel s = .next t ∧ Ends s t .ok []
          ∧ t.slot n = completed .cancelled x ∧ OtherSlots n s t ∧ t.completions = s.completions.set n true
          ∧ t.station r = { y with
              queue := y.queue.filter (· ≠ n)
              state := if recovers then .recovering else y.state
              pollTimer := if recovers then none else y.pollTimer
              resyncRetries := if recovers then 0 else y.resyncRetries
              resyncRepeats := if recovers then 0 else y.resyncRepeats
              resyncWait := if recovers then none else y.resyncWait
              resyncNeeded := y.resyncNeeded || doubt && decide (y.state = .held) }
          ∧ OtherStations r s t
          ∧ (recovers = true → Reported r s t)
          ∧ (recovers = false → t.changeFlags = s.changeFlags ∧ t.seenMarks = s.seenMarks)
          ∧ (∀ u, t.trunk u = { s.trunk u with
              pollDue := if recovers then (s.trunk u).pollDue.filter (· ≠ r) else (s.trunk u).pollDue
              resyncList := if recovers = true ∧ u = y.curTrunk then listed (s.trunk u).resyncList r
                else (s.trunk u).resyncList })
          ∧ t = { s with
              port := t.port, stations := t.stations, slots := t.slots, trunkA := t.trunkA, trunkB := t.trunkB
              completions := t.completions, changeFlags := t.changeFlags, seenMarks := t.seenMarks
              interruptLine := t.interruptLine })

/-- CANCEL of a group write: one QUEUED behind an ACTIVE head leaves the group queue and completes CANCELLED; an ACTIVE one
has its copies not yet begun withdrawn, and completes CANCELLED at once when none is being sent, the entries behind it being
dispatched, or else takes cancel requested (R58, R60, R91). -/
def Obligations.CancelWithdrawsGroupWrite : Prop :=
  ∀ (s : State) (n : SlotIdx), Accepted s 10 → n.val = (argumentByte s 0 0).toNat →
    (s.slot n).kind = .groupWrite →
    let x := s.slot n
    let withdrawn (c : CopyState) : CopyState := if c = .offered then .withdrawn else c
    (x.state = .queued → ∀ head, s.groupQueue.head? = some head → (s.slot head).state = .active →
      ∃ t, exec .cancel s = .next t ∧ Ends s t .ok [] ∧ t.slot n = completed .cancelled x ∧ OtherSlots n s t
        ∧ t.groupQueue = s.groupQueue.filter (· ≠ n) ∧ t.completions = s.completions.set n true
        ∧ t = { s with
            port := t.port, slots := t.slots, groupQueue := t.groupQueue, completions := t.completions
            interruptLine := t.interruptLine })
    ∧ (x.state = .active → (x.copyA = .sending ∨ x.copyB = .sending) →
        ∃ t, exec .cancel s = .next t ∧ Ends s t .cancelPending []
          ∧ t.slot n = { x with
              copyA := withdrawn x.copyA, copyB := withdrawn x.copyB, cancelRequested := true }
          ∧ OtherSlots n s t
          ∧ t = { s with port := t.port, slots := t.slots, interruptLine := t.interruptLine })
    ∧ (x.state = .active → x.copyA ≠ .sending → x.copyB ≠ .sending →
        ∃ t, exec .cancel s = .next t ∧ Ends s t .ok []
          ∧ t.slot n = completed .cancelled { x with copyA := withdrawn x.copyA, copyB := withdrawn x.copyB }
          ∧ t.completions[n] = true ∧ n ∉ t.groupQueue
          ∧ (QueuesLawful s → ∀ rest, s.groupQueue = n :: rest → Dispatched s t (ChosenFor s) rest
              ∧ ∀ m, m ∉ s.groupQueue → t.slot m = s.slot m ∧ t.completions[m] = s.completions[m])
          ∧ t = { s with
              port := t.port, slots := t.slots, groupQueue := t.groupQueue, completions := t.completions
              interruptLine := t.interruptLine })

/-- COLLECT refuses a slot that is not COMPLETE; a COMPLETE slot's result record is returned in the layout of Table 11-7,
its number leaves the completion set and it becomes FREE (R34, R62, R63). The byte of an absent last status has no meaning
and the model leaves it free (log 8). -/
def Obligations.CollectReturnsResultAndFrees : Prop :=
  ∀ s : State, Accepted s 11 →
    (∀ c, firstFailure (slotChecks s ++
        [(decide (∀ n : SlotIdx, n.val = (argumentByte s 0 0).toNat → (s.slot n).state ≠ .complete), .notComplete)])
          = some c → Refused .collect s c)
    ∧ ∀ (n : SlotIdx) (c : CompletionCode), n.val = (argumentByte s 0 0).toNat → (s.slot n).state = .complete →
        (s.slot n).code = some c →
        ∃ (t : State) (noStatus : Byte), exec .collect s = .next t
          ∧ (let x := s.slot n
             let counts (w : Word) : Word := if x.kind = .standingRead then w else 0
             Ends s t .ok
              [ x.tag ++ (BitVec.ofNat 8 (completionCodeNumber c) ++ BitVec.ofNat 8 n.val),
                BitVec.ofNat 16 x.skipped ++ BitVec.ofNat 16 x.bytesTransferred,
                packBytes (BitVec.ofNat 8 x.attempts) (x.lastStatus.getD noStatus)
                  (if x.lastStatus.isSome then 1 else 0) 0,
                counts (BitVec.ofNat 16 x.cycleMisses ++ x.cycles),
                counts (0#16 ++ BitVec.ofNat 16 x.overruns),
                0 ])
          ∧ t.slot n = { s.slot n with state := .free } ∧ OtherSlots n s t
          ∧ t.completions = s.completions.set n false
          ∧ t = { s with
              port := t.port, slots := t.slots, completions := t.completions, freeCount := t.freeCount
              interruptLine := t.interruptLine }

/-- CLAIM makes its checks in order; then a buffer the host holds becomes SEEN, and a FRESH buffer becomes HELD_BY_HOST and
its offset, fill number and the overrun count are returned, or the result is NOTHING_FRESH (R102). -/
def Obligations.ClaimHoldsFreshBuffer : Prop :=
  ∀ s : State, Accepted s 12 →
    let isSlot (n : SlotIdx) : Prop := n.val = (argumentByte s 0 0).toNat
    let released (role : Role) : Role := if role = .heldByHost then .seen else role
    (∀ c, firstFailure (slotChecks s ++
        [ (decide (∀ n : SlotIdx, n.val = (argumentByte s 0 0).toNat → (s.slot n).kind ≠ .standingRead), .badArgument),
          (decide (∀ n : SlotIdx, n.val = (argumentByte s 0 0).toNat → (s.slot n).state = .complete),
            .alreadyComplete) ]) = some c → Refused .claim s c)
    ∧ ∀ n, isSlot n → (s.slot n).kind = .standingRead → (s.slot n).state ≠ .free → (s.slot n).state ≠ .complete →
        let x := s.slot n
        ∃ t, exec .claim s = .next t ∧ OtherSlots n s t
          ∧ t = { s with port := t.port, slots := t.slots, interruptLine := t.interruptLine }
          ∧ (x.role1 = .fresh →
              Ends s t .ok [BitVec.ofNat 32 x.offset, x.fill1.setWidth 32, BitVec.ofNat 32 x.overruns]
              ∧ t.slot n = { x with role1 := .heldByHost, role2 := released x.role2 })
          ∧ (x.role1 ≠ .fresh → x.role2 = .fresh →
              Ends s t .ok [BitVec.ofNat 32 x.offset2, x.fill2.setWidth 32, BitVec.ofNat 32 x.overruns]
              ∧ t.slot n = { x with role1 := released x.role1, role2 := .heldByHost })
          ∧ (x.role1 ≠ .fresh → x.role2 ≠ .fresh →
              Ends s t .nothingFresh []
              ∧ t.slot n = { x with role1 := released x.role1, role2 := released x.role2 })

/-- UNCLAIM makes its checks in order; then a buffer that is HELD_BY_HOST becomes SEEN and the result value is 1, or
nothing changes and it is 0 (R103). -/
def Obligations.UnclaimReleasesBuffer : Prop :=
  ∀ s : State, Accepted s 13 →
    (∀ c, firstFailure (slotChecks s ++
        [ (decide (∀ n : SlotIdx, n.val = (argumentByte s 0 0).toNat → (s.slot n).kind ≠ .standingRead), .badArgument),
          (decide (∀ n : SlotIdx, n.val = (argumentByte s 0 0).toNat → (s.slot n).state = .complete),
            .alreadyComplete) ]) = some c → Refused .unclaim s c)
    ∧ ∀ n : SlotIdx, n.val = (argumentByte s 0 0).toNat → (s.slot n).kind = .standingRead →
        (s.slot n).state ≠ .free → (s.slot n).state ≠ .complete →
        let x := s.slot n
        let released (role : Role) : Role := if role = .heldByHost then .seen else role
        ∃ t, exec .unclaim s = .next t
          ∧ Ends s t .ok [if x.role1 = .heldByHost ∨ x.role2 = .heldByHost then 1 else 0]
          ∧ t.slot n = { x with role1 := released x.role1, role2 := released x.role2 } ∧ OtherSlots n s t
          ∧ t = { s with port := t.port, slots := t.slots, interruptLine := t.interruptLine }

/-! ### The Service Arbiter -/

/-- END_SERVICE makes its checks in order; then it pops the top entry, returns the entries left and the entry's vector, and
re-raises a station whose re-raise flag is set, unless it is LOST (R140, R141). -/
def Obligations.EndServicePopsTop : Prop :=
  ∀ s : State, Accepted s 14 →
    let h := handleArgument s
    let isTop (e : StackEntry) : Bool := decide (e.record = handleIndex h ∧ e.generation = h.extractLsb' 8 8)
    (∀ c, firstFailure (handleChecks s h ++
        [ (decide (s.serviceStack = []), .nothingInService),
          (!(s.serviceStack.head?.any isTop), .order) ]) = some c → Refused .endService s c)
    ∧ ∀ (r : RecIdx) (top : StackEntry) (rest : List StackEntry), Names s h r → s.serviceStack = top :: rest →
        isTop top = true →
        let x := s.station r
        let raises := x.reRaise && x.armed && decide (x.state ≠ .lost)
        ∃ t, exec .endService s = .next t
          ∧ Ends s t .ok [BitVec.ofNat 32 rest.length, top.vector.setWidth 32]
          ∧ t.serviceStack = rest
          ∧ t.station r = { x with reRaise := false, coalesce := if raises then 1 else x.coalesce }
          ∧ OtherStations r s t
          ∧ (∀ p : Fin 8, t.serviceLists[p] =
              s.serviceLists[p] ++ if raises = true ∧ p = x.priority then [r] else [])
          ∧ t = { s with
              port := t.port, stations := t.stations, serviceLists := t.serviceLists
              serviceStack := t.serviceStack, interruptLine := t.interruptLine }

/-- A read of the service-acknowledge word while the SERVICE cause is active takes the head of the highest pending list:
its word is returned, it leaves the list, an entry is pushed, and its coalesce count is 0 (R136, R137). The bytes of a
partial read stand in the low bytes (log 7). -/
def Obligations.AcknowledgeTakesWinner : Prop :=
  ∀ (s : State) (part : Part) (p : Fin 8) (r : RecIdx),
    s.serviceLists[p].head? = some r → (∀ q : Fin 8, p < q → s.serviceLists[q] = []) →
    (∀ top, s.serviceStack.head? = some top → top.priority < p) →
    let x := s.station r
    ∃ t, exec (.serviceAcknowledge part) s = .next t
      ∧ t.busRead = readPart part (packBytes (BitVec.ofNat 8 r.val) x.generation x.vector (BitVec.ofNat 8 x.coalesce))
      ∧ (∀ q : Fin 8, t.serviceLists[q] = if q = p then s.serviceLists[q].filter (· ≠ r) else s.serviceLists[q])
      ∧ t.serviceStack = ⟨r, x.generation, p, x.vector⟩ :: s.serviceStack
      ∧ t.station r = { x with coalesce := 0 } ∧ OtherStations r s t
      ∧ t.interruptLine = lineLevel t
      ∧ t = { s with
          stations := t.stations, serviceLists := t.serviceLists, serviceStack := t.serviceStack
          busRead := t.busRead, interruptLine := t.interruptLine }

/-- A read of the service-acknowledge word while the SERVICE cause is inactive returns the none flag, SPURIOUS_VECTOR, a
handle of 0 and a count of 0, and changes no list, no entry, no count and no flag (R136, R138). The bytes of a partial
read stand in the low bytes (log 7). -/
def Obligations.SpuriousAcknowledgeChangesNothing : Prop :=
  ∀ (s : State) (part : Part),
    ((∀ p : Fin 8, s.serviceLists[p] = [])
      ∨ ∃ top, s.serviceStack.head? = some top ∧ ∀ p : Fin 8, s.serviceLists[p] ≠ [] → p ≤ top.priority) →
    ∃ t, exec (.serviceAcknowledge part) s = .next t
      ∧ t.busRead = readPart part (packBytes 0x80 0 (BitVec.ofNat 8 s.params.spuriousVector) 0)
      ∧ t = { s with busRead := t.busRead, interruptLine := lineLevel s }

/-! ### Trunks -/

/-- TRUNK_ENABLE is refused for no trunk and from ONLINE and TEST; from DISABLED and FAULT it enters ONLINE if the line has
been idle for two character times at the trunk's rate, else FAULT with the event flag set, and reads the rate (R162, R148).
The idle history is kept in units of 1.25 us (log 12). -/
def Obligations.TrunkEnableExaminesLine : Prop :=
  ∀ s : State, Accepted s 15 →
    (1 < (argumentByte s 0 0).toNat → Refused .trunkEnable s .badArgument)
    ∧ ∀ u, (argumentByte s 0 0).toNat = trunkCode u →
        let x := s.trunk u
        let rate := rateParam s.params u
        let quiet := x.rxIdle && decide (twoCharacters rate ≤ x.idleFor)
        let entered : TrunkState := if quiet then .online else .fault
        (x.state = .online ∨ x.state = .test → Refused .trunkEnable s .trunkState)
        ∧ (x.state = .disabled ∨ x.state = .fault →
            ∃ t, exec .trunkEnable s = .next t ∧ Ends s t .ok [BitVec.ofNat 32 (trunkStateCode entered)]
              ∧ t.trunk u = { x with
                  state := entered, guardTimer := if quiet then none else x.guardTimer, rate := Fin.ofNat 4 rate
                  eventFlag := x.eventFlag || !quiet }
              ∧ OtherTrunk u s t
              ∧ t = { s with
                  port := t.port, trunkA := t.trunkA, trunkB := t.trunkB, interruptLine := t.interruptLine })

/-- TRUNK_DISABLE of a trunk that is not ONLINE stops its timers and enters DISABLED, keeping its event flag, stray count
and order (R164); TRUNK_TEST makes its checks in order and puts a DISABLED trunk that no station uses in TEST (R166). -/
def Obligations.TrunkDisableAndTest : Prop :=
  ∀ s : State,
    (Accepted s 16 →
      (1 < (argumentByte s 0 0).toNat → Refused .trunkDisable s .badArgument)
      ∧ ∀ u, (argumentByte s 0 0).toNat = trunkCode u → (s.trunk u).state ≠ .online →
          ∃ t, exec .trunkDisable s = .next t ∧ Ends s t .ok []
            ∧ t.trunk u = { s.trunk u with
                state := .disabled, replyTimer := none, guardTimer := none, lineHold := none }
            ∧ OtherTrunk u s t
            ∧ t = { s with
                port := t.port, trunkA := t.trunkA, trunkB := t.trunkB, interruptLine := t.interruptLine })
    ∧ (Accepted s 17 →
      (1 < (argumentByte s 0 0).toNat → Refused .trunkTest s .badArgument)
      ∧ ∀ u, (argumentByte s 0 0).toNat = trunkCode u →
          ((s.trunk u).state ≠ .disabled → Refused .trunkTest s .trunkState)
          ∧ ((s.trunk u).state = .disabled →
              (∃ r : RecIdx, (s.station r).state ≠ .vacant ∧ (s.station r).curTrunk = u) →
              Refused .trunkTest s .trunkInUse)
          ∧ ((s.trunk u).state = .disabled →
              (∀ r : RecIdx, (s.station r).state = .vacant ∨ (s.station r).curTrunk ≠ u) →
              ∃ t, exec .trunkTest s = .next t ∧ Ends s t .ok []
                ∧ t.trunk u = { s.trunk u with state := .test, rate := Fin.ofNat 4 (rateParam s.params u) }
                ∧ OtherTrunk u s t
                ∧ t = { s with
                    port := t.port, trunkA := t.trunkA, trunkB := t.trunkB, interruptLine := t.interruptLine }))

/-- ECHO makes its checks in order; an accepted one begins to send the preamble, an ECHO frame with the buffer's bytes and
its check, and the port stays BUSY (R167, Tables 7-2 and 11-11). The frame's SUB byte has no value in the spec and is left
free (log 32); how the check register is held is the model's reading (log 10). -/
def Obligations.EchoBuildsItsFrame : Prop :=
  ∀ s : State, Accepted s 18 →
    let len := (argumentByte s 1 2).toNat
    let offset := argumentHalf s 1
    (1 < (argumentByte s 0 0).toNat → Refused .echo s .badArgument)
    ∧ ∀ u, (argumentByte s 0 0).toNat = trunkCode u →
        (∀ c, firstFailure
          [ (decide ((s.trunk u).state ≠ .test), .trunkState), (decide ¬(1 ≤ len ∧ len ≤ 64), .badArgument),
            (decide (offset % 4 ≠ 0 ∨ 16384 < offset + len), .bufferRange) ] = some c → Refused .echo s c)
        ∧ ((s.trunk u).state = .test → 1 ≤ len → len ≤ 64 → offset % 4 = 0 → offset + len ≤ 16384 →
            ∃ sub : Byte,
            let body : List Byte :=
              [0x00, 0x06, sub, BitVec.ofNat 8 len] ++ (List.range len).map fun k => s.buffer.read (offset + k)
            ∃ t, exec .echo s = .next t
              ∧ t.port = { s.port with
                  echo := some { trunk := u, sent := 0xC3#8 :: (body ++ checkBytes body), taken := []
                                 transmitting := true, listen := none } }
              ∧ t = { s with port := t.port, freeCount := t.freeCount, interruptLine := lineLevel s })

/-- An ECHO takes the characters of its trunk's loopback, listens for REPLY_WINDOW ticks after its last character, and ends
when it has taken as many characters as it sent or when that time expires: PASS when all match, else FAIL with the reason
and the index of the first character that differs or is missing (R167). Its listening ends when that timer expires and no
sooner (R1). -/
def Obligations.EchoComparesCharacters : Prop :=
  ∀ (s : State) (e : EchoTest), s.port.echo = some e → 2 ≤ e.sent.length →
    let idle : State := { s with port := { s.port with echo := none } }
    let same (taken : List RxChar) (k : Nat) : Prop :=
      ∃ c, taken[k]? = some c ∧ c.stopOk = true ∧ e.sent[k]? = some c.value
    let ended (c : Instr) (taken : List RxChar) : Prop := ∃ t, exec c s = .next t
      ∧ t = { s with port := t.port, interruptLine := t.interruptLine }
      ∧ (taken = [] → Ends idle t .fail [1, 0])
      ∧ (taken ≠ [] → (∀ k, k < e.sent.length → same taken k) → Ends idle t .pass [0, 0])
      ∧ (taken ≠ [] → ∀ k, k < e.sent.length → ¬same taken k → (∀ j, j < k → same taken j) →
          Ends idle t .fail [if k < e.sent.length - 2 then 2 else 3, BitVec.ofNat 32 k])
    (∀ c, e.taken.length + 1 < e.sent.length →
      ∃ t, exec (.loopbackCharacter e.trunk c) s = .next t
        ∧ t.port = { s.port with echo := some { e with taken := e.taken ++ [c] } }
        ∧ t = { s with port := t.port, interruptLine := lineLevel s })
    ∧ (∀ c, e.sent.length ≤ e.taken.length + 1 → ended (.loopbackCharacter e.trunk c) (e.taken ++ [c]))
    ∧ (e.listen = some 0 → ended (.echoListenExpiry e.trunk) e.taken)
    ∧ (e.listen ≠ some 0 → exec (.echoListenExpiry e.trunk) s = .next s)
    ∧ (e.transmitting = true → (s.trunk e.trunk).inFlight = none →
        ∃ t, exec (.transmissionEnd e.trunk) s = .next t
          ∧ t.port = { s.port with
              echo := some { e with transmitting := false, listen := startTimer s.params.replyWindow } }
          ∧ t = { s with port := t.port, interruptLine := lineLevel s })

/-- When a trunk leaves ONLINE, by TRUNK_DISABLE or by the expiry of its line-hold timer, it is at rest, the slot whose
frame it carried completes TRUNK_FAULT, its copy of the group write is dropped, and every station is treated as Table 8-1
says: failed over to its usable other trunk in RECOVERING, HELD there with resync needed, LOST with its queue completed,
VACANT where it was RETIRING with its frame on the trunk, its probe chosen anew where it was LOST and the trunk had its
probe, or left alone (R18, R92, R93, R163, R164, R165, R169 to R174). That the bytes taken of a reply being received, and at
the line-hold expiry the character being received, are counted as stray within the event is the model's reading (log 21),
and so is which stations a group write dispatched within it sees (log 29). -/
def Obligations.TrunkLossTreatsStations : Prop :=
  ∀ (s : State) (u : TrunkId), QueuesLawful s → (s.trunk u).state = .online →
    let carried (n : SlotIdx) : Prop := carriedOn s u = some n ∧ (s.slot n).state = .active
    let served (x : Station) : Prop :=
      x.state = .enrolling ∨ x.state = .active ∨ x.state = .suspect ∨ x.state = .recovering
    let loses (r : RecIdx) : Prop := (served (s.station r) ∨ (s.station r).state = .held)
      ∧ (s.station r).curTrunk = u ∧ ∀ w, ¬UsableOther s (s.station r) w
    let held (r : RecIdx) (n : SlotIdx) : Prop :=
      n ∈ (s.station r).queue ∨ (s.slot n).state = .standingWait ∧ (s.slot n).station = r
    let bytes : Nat := match (s.trunk u).inFlight with
      | some f => if f.phase = .receiving then 1 + f.reply.length else 0
      | none => 0
    let lost (cut : Nat) (t : State) : Prop :=
      (t.trunk u).inFlight = none ∧ (t.trunk u).replyTimer = none ∧ (t.trunk u).guardTimer = none
      ∧ (t.trunk u).lineHold = none ∧ (t.trunk u).resyncList = [] ∧ (t.trunk u).pollDue = []
      ∧ (t.trunk u).rxChar = false
      ∧ (t.trunk u).rxHeld = ((s.trunk u).rxHeld || (decide (cut = 1) && !(s.trunk u).rxIdle))
      ∧ (t.trunk u).strayCount = min 65535 ((s.trunk u).strayCount + bytes + cut)
      ∧ (t.trunk u).order = (s.trunk u).order ∧ (t.trunk u).lastServed = (s.trunk u).lastServed
      ∧ (∀ n, carried n → t.slot n = completed .trunkFault (s.slot n) ∧ t.completions[n] = true)
      ∧ (∀ n, ¬carried n → n ∉ s.groupQueue → (∀ r, loses r → ¬held r n) →
          t.slot n = s.slot n ∧ t.completions[n] = s.completions[n])
      ∧ (∀ r : RecIdx,
          let x := s.station r
          let queue := x.queue.filter fun n => decide ¬(carriedOn s u = some n ∧ (s.slot n).state = .active)
          (served x → x.curTrunk = u → ∀ w, UsableOther s x w →
            t.station r = { x with
              state := .recovering, curTrunk := w, pollTimer := none, resyncWait := none, resyncRetries := 0
              resyncRepeats := 0, queue := queue }
            ∧ r ∈ (t.trunk w).resyncList ∧ r ∉ (t.trunk w).pollDue ∧ t.changeFlags[r] = true)
          ∧ (x.state = .held → x.curTrunk = u → ∀ w, UsableOther s x w →
            t.station r = { x with curTrunk := w, resyncNeeded := true, queue := queue }
            ∧ t.changeFlags[r] = true)
          ∧ (loses r →
            t.station r = lostStation s .trunkDown x ∧ (∀ p : Fin 8, r ∉ t.serviceLists[p])
            ∧ t.changeFlags[r] = true
            ∧ ∀ n, held r n → ¬carried n → t.slot n = completed .stationLost (s.slot n) ∧ t.completions[n] = true)
          ∧ (served x ∨ x.state = .held ∨ x.state = .vacant → x.curTrunk ≠ u ∨ x.state = .vacant →
            t.station r = { x with queue := queue } ∧ t.changeFlags[r] = s.changeFlags[r])
          ∧ (x.state = .retiring →
            (frameTo s u r = true → t.station r = { vacated x with queue := queue }
              ∧ t.indexOf x.address = none ∧ t.changeFlags[r] = true)
            ∧ (frameTo s u r = false →
              t.station r = { x with queue := queue } ∧ t.changeFlags[r] = s.changeFlags[r]))
          ∧ (x.state = .lost →
            let probed : Prop := r ∈ (s.trunk u).pollDue ∨ s.flightOwner u = some (.poll r)
            let joins (w : TrunkId) : Prop := w ≠ u ∧ (s.trunk w).state = .online ∧ TrunkOf x w
            (¬probed ∨ (∃ w, joins w) → t.station r = { x with queue := queue })
            ∧ (probed → (∀ w, ¬joins w) →
                t.station r = { x with queue := queue, pollTimer := startTimer s.params.probePeriod })
            ∧ ∀ w, w ≠ u → (r ∈ (t.trunk w).pollDue ↔ r ∈ (s.trunk w).pollDue ∨ probed ∧ joins w)))
      ∧ (∀ n rest, s.groupQueue = n :: rest → (s.slot n).state = .active → ¬carried n →
          let x := s.slot n
          let z := x.setCopy u .dropped
          let other (c : CopyState) : Prop := ∃ w, w ≠ u ∧ x.copy w = c
          (x.copy u ≠ .offered → x.copy u ≠ .sending → t.slot n = x ∧ t.groupQueue = s.groupQueue)
          ∧ (x.copy u = .offered ∨ x.copy u = .sending →
            (other .offered ∨ other .sending → t.slot n = z ∧ t.groupQueue = s.groupQueue)
            ∧ (¬other .offered → ¬other .sending → GroupWriteEnds s t n
                (completed (if x.cancelRequested then .cancelled
                  else if x.copyA = .sentWhole ∧ u = .b ∨ x.copyB = .sentWhole ∧ u = .a then .groupPartial else .trunkFault) z)
                (fun group w => w ≠ u ∧ ChosenFor s group w) rest)))
      ∧ t.buffer = s.buffer ∧ t.serviceStack = s.serviceStack ∧ t.enableMask = s.enableMask
    ((s.trunk u).lineHold = some 0 →
      ∃ t, exec (.lineHoldExpiry u) s = .next t ∧ lost (if (s.trunk u).rxChar then 1 else 0) t
        ∧ (t.trunk u).state = .fault ∧ (t.trunk u).eventFlag = true ∧ t.interruptLine = lineLevel t)
    ∧ (Accepted s 16 → (argumentByte s 0 0).toNat = trunkCode u →
        ∃ t, exec .trunkDisable s = .next t ∧ Ends s t .ok [] ∧ lost 0 t ∧ (t.trunk u).state = .disabled
          ∧ (t.trunk u).eventFlag = (s.trunk u).eventFlag)

/-! ### Timers -/

/-- The expiry of a poll timer stops it and puts the station on a poll-due list: of its current trunk in ACTIVE and
SUSPECT, of its probe trunk in LOST; with no trunk ONLINE the timer starts again with PROBE_PERIOD (R110). A timer that is
stopped, or has ticks left, does not expire (R1). -/
def Obligations.PollTimerExpiryListsStation : Prop :=
  ∀ (s : State) (r : RecIdx),
    ((s.station r).pollTimer ≠ some 0 → exec (.pollTimerExpiry r) s = .next s) ∧
    ((s.station r).pollTimer = some 0 →
    let x := s.station r
    let joins (w : TrunkId) : Prop := ∃ t, exec (.pollTimerExpiry r) s = .next t
      ∧ t.station r = { x with pollTimer := none } ∧ OtherStations r s t
      ∧ t.trunk w = { s.trunk w with pollDue := listed (s.trunk w).pollDue r } ∧ OtherTrunk w s t
      ∧ t = { s with
          stations := t.stations, trunkA := t.trunkA, trunkB := t.trunkB, interruptLine := lineLevel s }
    let online (w : TrunkId) : Prop := (s.trunk w).state = .online
    (x.state = .active ∨ x.state = .suspect → joins x.curTrunk)
    ∧ (x.state = .lost → online x.homeTrunk → joins x.homeTrunk)
    ∧ (x.state = .lost → ¬online x.homeTrunk → ∀ w, x.altTrunk = some w → online w → joins w)
    ∧ (x.state = .lost → ¬online x.homeTrunk → (∀ w, x.altTrunk = some w → ¬online w) →
        ∃ t, exec (.pollTimerExpiry r) s = .next t
          ∧ t.station r = { x with pollTimer := startTimer s.params.probePeriod } ∧ OtherStations r s t
          ∧ t = { s with stations := t.stations, interruptLine := lineLevel s }))

/-- The other timers: a repeat timer's expiry makes its slot ACTIVE with a repeat pending (R44), a period timer's makes
its slot QUEUED at the tail of its station queue (R45), a resync wait timer's puts its station on the RESYNC list of its
current trunk (R127), and a guard timer's makes its trunk free (R158). A timer that is stopped, or has ticks left, does not
expire, a trunk's reply and line-hold timers among them (R1). -/
def Obligations.OtherTimerExpiries : Prop :=
  ∀ s : State,
    (∀ n, (s.slot n).state = .repeatWait → (s.slot n).timer = some 0 →
      ∃ t, exec (.repeatTimerExpiry n) s = .next t
        ∧ t.slot n = { s.slot n with state := .active, timer := none, pendingStep := .again } ∧ OtherSlots n s t
        ∧ t = { s with slots := t.slots, interruptLine := lineLevel s })
    ∧ (∀ n, (s.slot n).state = .standingWait → (s.slot n).timer = some 0 →
        let r := handleIndex (s.slot n).target
        ∃ t, exec (.periodTimerExpiry n) s = .next t
          ∧ t.slot n = { s.slot n with state := .queued, timer := none } ∧ OtherSlots n s t
          ∧ t.station r = { s.station r with queue := (s.station r).queue ++ [n] } ∧ OtherStations r s t
          ∧ t = { s with stations := t.stations, slots := t.slots, interruptLine := lineLevel s })
    ∧ (∀ r, ((s.station r).state = .enrolling ∨ (s.station r).state = .recovering) →
        (s.station r).resyncWait = some 0 →
        ∃ t, exec (.resyncWaitExpiry r) s = .next t
          ∧ t.station r = { s.station r with resyncWait := none } ∧ OtherStations r s t
          ∧ (∀ u, t.trunk u = { s.trunk u with
              resyncList := if u = (s.station r).curTrunk then listed (s.trunk u).resyncList r
                else (s.trunk u).resyncList })
          ∧ t = { s with
              stations := t.stations, trunkA := t.trunkA, trunkB := t.trunkB, interruptLine := lineLevel s })
    ∧ (∀ u, (s.trunk u).guardTimer = some 0 →
        ∃ t, exec (.guardTimerExpiry u) s = .next t
          ∧ t.trunk u = { s.trunk u with guardTimer := none } ∧ OtherTrunk u s t
          ∧ t = { s with trunkA := t.trunkA, trunkB := t.trunkB, interruptLine := lineLevel s })
    ∧ (∀ n, (s.slot n).timer ≠ some 0 →
        exec (.repeatTimerExpiry n) s = .next s ∧ exec (.periodTimerExpiry n) s = .next s)
    ∧ (∀ r, (s.station r).resyncWait ≠ some 0 → exec (.resyncWaitExpiry r) s = .next s)
    ∧ ∀ u, ((s.trunk u).guardTimer ≠ some 0 → exec (.guardTimerExpiry u) s = .next s)
        ∧ ((s.trunk u).replyTimer ≠ some 0 → exec (.replyWindowExpiry u) s = .next s)
        ∧ ((s.trunk u).lineHold ≠ some 0 → exec (.lineHoldExpiry u) s = .next s)

/-! ### Frames sent -/

/-- An idle trunk whose next source is the station exchanges takes the head slot of the first ready station in rotation:
its frame is Table 3-1's, the slot counts the attempt, the retry or the repeat, takes its segment toggle and reads its
segment image; and a standing read's QUEUED slot first starts its cycle, choosing its buffer by the table of R96 (R65, R66,
R72, R74, R95, R96, R160, R161). -/
def Obligations.ArbiterSendsExchangeFrame : Prop :=
  ∀ (s : State) (u : TrunkId) (r : RecIdx) (n : SlotIdx),
    TrunkIdle s u → NextServed s u .station → FirstReady s u r n → (s.slot n).kind ≠ .groupWrite →
    let x := s.slot n
    let y := s.station r
    let reads := decide (x.kind = .read ∨ x.kind = .sweepRead ∨ x.kind = .standingRead)
    let sends (z : Slot) (toggle : Bool) : Prop := ∃ t, exec (.arbiterTakesOffer u) s = .next t
      ∧ t.slot n = z ∧ OtherSlots n s t
      ∧ t.trunk u = { trunkSending (s.trunk u) .station (.exchange n r)
          { dest := y.address
            kind := if reads then .read else if x.kind = .write then .write else .control
            toggle := toggle
            last := decide (x.kind = .sweepRead ∨ x.kind = .control ∨ z.length ≤ z.bytesDone + z.segLen)
            sub := z.curSub, count := BitVec.ofNat 8 z.segLen, payload := if reads then [] else z.image }
          with lastServed := r }
      ∧ OtherTrunk u s t
      ∧ t = { s with slots := t.slots, trunkA := t.trunkA, trunkB := t.trunkB, interruptLine := lineLevel s }
    (¬(x.kind = .standingRead ∧ x.state = .queued) →
      let toggle := if x.pendingStep = .first then y.nextToggle else x.segToggle.getD y.nextToggle
      sends { x with
        state := .active, attempts := min 255 (x.attempts + 1)
        retries := x.retries + if x.pendingStep matches .retry _ then 1 else 0
        repeats := x.repeats + if x.pendingStep = .again then 1 else 0
        segToggle := some toggle
        image := if x.pendingStep = .first then
            (if reads then [] else (List.range x.segLen).map fun k => s.buffer.read (x.offset + x.bytesDone + k))
          else x.image } toggle)
    ∧ (x.kind = .standingRead → x.state = .queued → SlotRolesLawful x →
        let first : Bool := match x.role1, x.role2 with
          | .empty, _ => true
          | .seen, .empty => false
          | .seen, _ => true
          | .fresh, .heldByHost => true
          | _, _ => false
        let overrun := decide (x.role1 = .fresh ∧ x.role2 = .heldByHost ∨ x.role1 = .heldByHost ∧ x.role2 = .fresh)
        sends { x with
          state := .active, bytesDone := 0, bytesTransferred := 0, curSegment := 0, curSub := x.subAddress
          retries := 0, repeats := 0, attempts := 1, skipped := 0, segToggle := some y.nextToggle, image := []
          role1 := if first then .filling else x.role1, role2 := if first then x.role2 else .filling
          overruns := if overrun then min 65535 (x.overruns + 1) else x.overruns } y.nextToggle)

/-- An idle trunk whose next source is the link frames takes the first station on its RESYNC list with no frame in flight,
or else the first such on its poll-due list; the station leaves the list and its RESYNC or POLL is sent (R112, R113, R124,
R161). -/
def Obligations.ArbiterSendsLinkFrame : Prop :=
  ∀ (s : State) (u : TrunkId) (r : RecIdx) (before after : List RecIdx),
    TrunkIdle s u → NextServed s u .link → (∀ q ∈ before, frameInFlight s q = true) → frameInFlight s r = false →
    let x := s.trunk u
    let address := (s.station r).address
    let sends (y : Trunk) : Prop := ∃ t, exec (.arbiterTakesOffer u) s = .next t ∧ t.trunk u = y ∧ OtherTrunk u s t
      ∧ t = { s with trunkA := t.trunkA, trunkB := t.trunkB, interruptLine := lineLevel s }
    (x.resyncList = before ++ r :: after →
      sends { trunkSending x .link (.resync r)
          { dest := address, kind := .resync, toggle := true, last := false, sub := 0, count := 0, payload := [] }
        with resyncList := x.resyncList.filter (· ≠ r) })
    ∧ ((∀ q ∈ x.resyncList, frameInFlight s q = true) → x.pollDue = before ++ r :: after →
        sends { trunkSending x .link (.poll r)
            { dest := address, kind := .poll, toggle := false, last := false, sub := 0, count := 0, payload := [] }
          with pollDue := x.pollDue.filter (· ≠ r) })

/-- A copy of the ACTIVE group write is sent when its trunk's arbiter serves the group source; when it has been sent whole
the trunk keeps its guard time, attempts counts the copy and bytes transferred is the length, and the write completes once
no copy is left: CANCELLED, GROUP_PARTIAL when the other was dropped, else DONE; the entries behind it in the group queue are
then dispatched (R60, R91, R92, R93, R154). That bytes done becomes the length too is the model's reading (log 23). -/
def Obligations.GroupCopyIsSentOnce : Prop :=
  ∀ (s : State) (u : TrunkId) (n : SlotIdx), (s.slot n).state = .active → (s.slot n).kind = .groupWrite →
    let x := s.slot n
    (TrunkIdle s u → NextServed s u .group → s.groupQueue.head? = some n → x.copy u = .offered →
      ∃ t, exec (.arbiterTakesOffer u) s = .next t
        ∧ t.slot n = x.setCopy u .sending ∧ OtherSlots n s t
        ∧ t.trunk u = trunkSending (s.trunk u) .group (.groupCopy n)
            { dest := x.target.extractLsb' 0 8, kind := .write, toggle := false, last := true, sub := x.subAddress
              count := BitVec.ofNat 8 x.length, payload := x.image }
        ∧ OtherTrunk u s t
        ∧ t = { s with slots := t.slots, trunkA := t.trunkA, trunkB := t.trunkB, interruptLine := lineLevel s })
    ∧ (∀ f, (s.trunk u).inFlight = some { owner := .groupCopy n, frame := f, phase := .transmitting } →
        let z := { x.setCopy u .sentWhole with
          attempts := min 255 (x.attempts + 1), bytesDone := x.length, bytesTransferred := x.length }
        let other (c : CopyState) : Prop := ∃ w, w ≠ u ∧ x.copy w = c
        ∃ t, exec (.transmissionEnd u) s = .next t
          ∧ t.trunk u = { trunkAfterFrame s (s.trunk u) with
              lineHold := if (s.trunk u).rxIdle then (s.trunk u).lineHold
                else startTimer s.params.lineHoldTime }
          ∧ OtherTrunk u s t
          ∧ (other .offered ∨ other .sending → t.slot n = z ∧ OtherSlots n s t ∧ t.groupQueue = s.groupQueue
              ∧ t.completions = s.completions)
          ∧ (¬other .offered → ¬other .sending →
              t.slot n = completed (if x.cancelRequested then .cancelled
                else if x.copyA = .dropped ∧ u = .b ∨ x.copyB = .dropped ∧ u = .a then .groupPartial else .done) z
              ∧ t.completions[n] = true ∧ n ∉ t.groupQueue
              ∧ (QueuesLawful s → ∀ rest, s.groupQueue = n :: rest → Dispatched s t (ChosenFor s) rest
                  ∧ ∀ m, m ∉ s.groupQueue → t.slot m = s.slot m ∧ t.completions[m] = s.completions[m]))
          ∧ t = { s with
              slots := t.slots, groupQueue := t.groupQueue, trunkA := t.trunkA, trunkB := t.trunkB
              completions := t.completions, interruptLine := t.interruptLine })

/-! ### The end of a frame -/

/-- The end of the transmission of a frame to one station opens the reply window with REPLY_WINDOW ticks, and starts the
line-hold timer if the input is at the non-idle level (R154, R163). -/
def Obligations.TransmissionEndOpensWindow : Prop :=
  ∀ (s : State) (u : TrunkId) (f : InFlight), (s.trunk u).inFlight = some f → f.phase = .transmitting →
    (∀ n, f.owner ≠ .groupCopy n) →
    ∃ t, exec (.transmissionEnd u) s = .next t
      ∧ t.trunk u = { s.trunk u with
          inFlight := some { f with phase := .window }, replyTimer := startTimer s.params.replyWindow
          lineHold := if (s.trunk u).rxIdle then (s.trunk u).lineHold else startTimer s.params.lineHoldTime }
      ∧ OtherTrunk u s t
      ∧ t = { s with trunkA := t.trunkA, trunkB := t.trunkB, interruptLine := lineLevel s }

/-- A character 0x3C with a correct stop bit begins the reply while the window is open; any other there, and any with no
frame in flight, is a stray byte; none is examined while the trunk transmits, or in TEST (R148, R155, R159). A line held at
the non-idle level gives one character error, and then no further character until it returns to idle (R148). A character
inside a reply joins those taken, or ends the reply as all its characters together do (R156); and the characters of a reply
that come when its frame is no longer in flight are stray bytes (R155, R165, R175). That REPLY_TAKEN brings several
characters, and which of them a line recorded at the non-idle level gives, is the model's choice (log 11, log 21). -/
def Obligations.CharacterBeginsReplyOrIsStray : Prop :=
  ∀ (s : State) (u : TrunkId) (c : RxChar) (i : Instr),
    (i = .strayByte u c ∨ i = .replyStart u ∧ c = ⟨0x3C, true⟩ ∨ i = .replyTaken u [c]) →
    let x := s.trunk u
    let becomes (i : Instr) (y : Trunk) : Prop := ∃ t, exec i s = .next t ∧ t.trunk u = y ∧ OtherTrunk u s t
      ∧ t = { s with trunkA := t.trunkA, trunkB := t.trunkB, interruptLine := lineLevel s }
    let held (chars : List RxChar) : Bool := !x.rxIdle && chars.any fun d => !d.stopOk
    let stray (chars : List RxChar) : Trunk := { x with
      strayCount := min 65535 (x.strayCount + chars.length), rxChar := false, rxHeld := held chars }
    (x.state = .test → x.inFlight = none → becomes i x)
    ∧ (x.rxHeld = true → becomes i x ∧ ∀ chars, becomes (.replyTaken u chars) x)
    ∧ (x.state ≠ .test → x.inFlight = none → x.rxHeld = false → becomes i (stray [c]))
    ∧ (x.state ≠ .test → x.inFlight = none → x.rxHeld = false → ∀ chars, chars ≠ [] →
        (x.rxIdle = true ∨ ∀ d ∈ chars, d.stopOk = true) → becomes (.replyTaken u chars) (stray chars))
    ∧ (x.state ≠ .test → x.inFlight = none → x.rxHeld = false → x.rxIdle = false →
        ∀ (good after : List RxChar) (bad : RxChar), (∀ d ∈ good, d.stopOk = true) → bad.stopOk = false →
        becomes (.replyTaken u (good ++ bad :: after)) (stray (good ++ [bad])))
    ∧ ∀ f, x.inFlight = some f →
        (f.phase = .transmitting → becomes i x)
        ∧ (f.phase = .window → x.rxHeld = false → ¬(c.value = 0x3C ∧ c.stopOk = true) → becomes i (stray [c]))
        ∧ (f.phase = .window → x.rxHeld = false → c.value = 0x3C → c.stopOk = true →
            becomes i { x with
              inFlight := some { f with phase := .receiving, reply := [] }, replyTimer := none, rxChar := false })
        ∧ (f.phase = .receiving → x.rxHeld = false → reception (f.reply ++ [c]) = .more →
            becomes i { x with
              inFlight := some { f with reply := f.reply ++ [c] }, rxChar := false, rxHeld := held [c] })
        ∧ (f.phase = .receiving → x.rxHeld = false → (x.rxIdle = true ∨ ∀ d ∈ f.reply, d.stopOk = true) → exec i s
            = exec (.replyTaken u (f.reply ++ [c])) (s.setTrunk u { x with inFlight := some { f with reply := [] } }))

/-- A change of a receive input's level starts its idle history anew; on an ONLINE trunk that does not transmit, the
line-hold timer starts with LINE_HOLD_TIME at the change to the non-idle level, where a character begins, and it stops at the
return to idle, at which a line held after a character error gives characters again (R148, R162, R163). The idle history's
form is the model's (log 12), and so are when a character begins (log 21) and that a change to the level the input has
already changes nothing (log 5). -/
def Obligations.LevelChangeRunsLineHold : Prop :=
  ∀ (s : State) (u : TrunkId) (idle : Bool) (lead : Nat),
    let x := s.trunk u
    let transmits : Prop := ∃ f, x.inFlight = some f ∧ f.phase = .transmitting
    let becomes (hold : Timer) (char : Bool) : Prop := ∃ t, exec (.receiveInputLevelChange u idle lead) s = .next t
      ∧ t.trunk u = { x with
          rxIdle := idle, idleFor := if idle then min 128 lead else 0, idleNew := true, lineHold := hold
          rxChar := char, rxHeld := x.rxHeld && !idle }
      ∧ OtherTrunk u s t
      ∧ t = { s with trunkA := t.trunkA, trunkB := t.trunkB, interruptLine := lineLevel s }
    (x.rxIdle = idle → exec (.receiveInputLevelChange u idle lead) s = .next s)
    ∧ (x.rxIdle = false → idle = true → becomes none x.rxChar)
    ∧ (x.rxIdle = true → idle = false → x.state = .online → ¬transmits → 
        becomes (startTimer s.params.lineHoldTime) true)
    ∧ (x.rxIdle = true → idle = false → (x.state ≠ .online ∨ transmits) → becomes x.lineHold x.rxChar)

/-- An ACK to an exchange frame of a served or HELD station sets its miss count to 0, its last status and, from SUSPECT, its
state, flips its next toggle, and for a READ frame stores its data; the slot completes DONE_SHORT, DONE, DONE_SKIPPED or
SWEEP_LIMIT, or goes on to its next segment; and the ATTN of an armed station is taken by its service condition (R67, R73,
R74, R78, R79, R80, R133, R134, R135, R158). That bytes done stays at a short ACK is the model's reading (log 23). -/
def Obligations.AckStoresDataAndAdvances : Prop :=
  ∀ (s : State) (u : TrunkId) (r : RecIdx) (n : SlotIdx) (f : Frame) (attn : Bool) (status : Byte)
    (data : List Byte), Receiving s u (.exchange n r) f → (s.trunk u).strayCount ≤ 65535 → BufferCanonical s →
    let x := s.slot n
    let y := s.station r
    let reads := decide (x.kind = .read ∨ x.kind = .sweepRead)
    x.state = .active → x.cancelRequested = false → handleIndex x.target = r →
    (reads = true ∧ f.kind = .read ∨ x.kind = .write ∧ f.kind = .write ∨ x.kind = .control ∧ f.kind = .control) →
    f.count.toNat = x.segLen → x.segLen ≤ 64 → data.length ≤ x.segLen → (reads = false → data = []) →
    x.offset + x.bytesDone + data.length ≤ 16384 →
    (y.state = .active ∨ y.state = .suspect ∨ y.state = .held) →
    let short := reads && decide (data.length < x.segLen)
    let carried := if reads then data.length else x.segLen
    let done := if short then x.bytesDone else x.bytesDone + x.segLen
    let z : Slot := { x with
      lastStatus := some status, bytesDone := done, bytesTransferred := x.bytesTransferred + carried }
    let code : Option CompletionCode :=
      if short then some .doneShort
      else if x.length ≤ done then some (if x.skipped = 0 then .done else .doneSkipped)
      else if x.kind = .sweepRead ∧ x.curSub = 255 then some .sweepLimit else none
    ∃ t, exec (.replyTaken u (replyCharacters f.dest .ack attn f.toggle status data)) s = .next t
      ∧ (∀ c, code = some c → t.slot n = completed c z ∧ t.completions = s.completions.set n true)
      ∧ (code = none → t.completions = s.completions ∧ t.slot n = { z with
          segToggle := none, curSegment := x.curSegment + 1
          curSub := if x.kind = .sweepRead then x.curSub + 1 else x.curSub
          retries := 0, repeats := 0, pendingStep := .first })
      ∧ OtherSlots n s t
      ∧ t.station r = attnTaken s r (attn && y.armed) { y with
          missCount := 0, lastStatus := some status, nextToggle := !y.nextToggle
          state := if y.state = .suspect then .active else y.state
          pollTimer := if y.state = .held then y.pollTimer else startTimer (s.params.get (1 + y.pollClass.val))
          queue := if code.isSome then y.queue.filter (· ≠ n) else y.queue }
      ∧ OtherStations r s t ∧ AttnListed s t r (attn && y.armed) y.priority
      ∧ (y.state = .suspect → Reported r s t) ∧ (y.state ≠ .suspect → Unreported s t)
      ∧ (∀ k, k < data.length → some (t.buffer.read (x.offset + x.bytesDone + k)) = data[k]?)
      ∧ (∀ a, ¬(x.offset + x.bytesDone ≤ a ∧ a < x.offset + x.bytesDone + data.length) →
          t.buffer.read a = s.buffer.read a)
      ∧ t.trunk u = trunkAfterFrame s (s.trunk u) ∧ OtherTrunk u s t
      ∧ t = { s with
          stations := t.stations, slots := t.slots, serviceLists := t.serviceLists, trunkA := t.trunkA
          trunkB := t.trunkB, completions := t.completions, changeFlags := t.changeFlags, seenMarks := t.seenMarks
          buffer := t.buffer, interruptLine := lineLevel t }

/-- A BUSY reply to an exchange frame completes the slot NOT_READY in STOP and, with no repeat left, in REPEAT; with
repeats left the slot waits REPEAT_INTERVAL; in SKIP the segment is passed over. A REJECT completes it REJECTED, or
DONE_SHORT for a sweep. Neither flips the toggle, and the payload either may carry to a READ frame is discarded; the ATTN of
an armed station is taken by its service condition (R67, R73, R75, R81, R82, R84, R85, R133, R134, R135, R157). -/
def Obligations.BusyAndRejectDecideByReadyMode : Prop :=
  ∀ (s : State) (u : TrunkId) (r : RecIdx) (n : SlotIdx) (f : Frame) (busy attn : Bool) (status : Byte)
    (data : List Byte), Receiving s u (.exchange n r) f → (s.trunk u).strayCount ≤ 65535 →
    (f.kind = .read ∧ data.length ≤ f.count.toNat ∧ data.length ≤ 64
      ∨ (f.kind = .write ∨ f.kind = .control) ∧ data = []) →
    let x := s.slot n
    let y := s.station r
    x.state = .active → x.cancelRequested = false → handleIndex x.target = r → x.kind ≠ .standingRead →
    x.kind ≠ .groupWrite → (y.state = .active ∨ y.state = .suspect ∨ y.state = .held) →
    let done := x.bytesDone + x.segLen
    let skips := busy && decide (x.readyMode = .skip)
    let waits := busy && decide (x.readyMode = .repeatBusy ∧ x.repeats < x.repeatLimit)
    let z : Slot := if skips then { x with
        lastStatus := some status, skipped := x.skipped + 1, bytesDone := done, segToggle := none }
      else { x with lastStatus := some status }
    let code : Option CompletionCode :=
      if !busy then some (if x.kind = .sweepRead then .doneShort else .rejected)
      else if waits then none
      else if !skips then some .notReady
      else if x.length ≤ done then some .doneSkipped
      else if x.kind = .sweepRead ∧ x.curSub = 255 then some .sweepLimit else none
    ∃ t, exec (.replyTaken u (replyCharacters f.dest (if busy then .busy else .reject) attn f.toggle status data)) s
          = .next t
      ∧ (∀ c, code = some c → t.slot n = completed c z ∧ t.completions = s.completions.set n true)
      ∧ (waits = true → t.completions = s.completions ∧ t.slot n = { z with
          state := .repeatWait, timer := startTimer s.params.repeatInterval, pendingStep := .again })
      ∧ (waits = false → code = none → t.completions = s.completions ∧ t.slot n = { z with
          curSegment := x.curSegment + 1, curSub := if x.kind = .sweepRead then x.curSub + 1 else x.curSub
          retries := 0, repeats := 0, pendingStep := .first })
      ∧ OtherSlots n s t
      ∧ t.station r = attnTaken s r (attn && y.armed) { y with
          missCount := 0, lastStatus := some status, state := if y.state = .suspect then .active else y.state
          pollTimer := if y.state = .held then y.pollTimer else startTimer (s.params.get (1 + y.pollClass.val))
          queue := if code.isSome then y.queue.filter (· ≠ n) else y.queue }
      ∧ OtherStations r s t ∧ AttnListed s t r (attn && y.armed) y.priority
      ∧ (y.state = .suspect → Reported r s t) ∧ (y.state ≠ .suspect → Unreported s t)
      ∧ t.trunk u = trunkAfterFrame s (s.trunk u) ∧ OtherTrunk u s t
      ∧ t = { s with
          stations := t.stations, slots := t.slots, serviceLists := t.serviceLists, trunkA := t.trunkA
          trunkB := t.trunkB, completions := t.completions, changeFlags := t.changeFlags, seenMarks := t.seenMarks
          interruptLine := lineLevel t }

/-- The cycle of a standing read at a reply (R97, R98, R99). An ACK that is full stores its data in the FILLING buffer
and, on the last segment, ends the cycle: that buffer becomes FRESH with the new cycle count as its fill number, another
FRESH one becomes SEEN, and the slot rests in STANDING_WAIT; on an earlier segment the cycle goes on. A short ACK, a
BUSY and a REJECT fail the cycle: the FILLING buffer becomes EMPTY, the miss is counted, and the slot rests. The payload of a
BUSY or REJECT is discarded (R73), and the ATTN of an armed station is taken by its service condition (R133, R134). That
bytes done stays at a short ACK is the model's reading (log 23). -/
def Obligations.StandingCycleEndsAtReply : Prop :=
  ∀ (s : State) (u : TrunkId) (r : RecIdx) (n : SlotIdx) (f : Frame) (attn : Bool) (status : Byte)
    (data : List Byte), Receiving s u (.exchange n r) f → (s.trunk u).strayCount ≤ 65535 → BufferCanonical s →
    let x := s.slot n
    let y := s.station r
    x.state = .active → x.cancelRequested = false → handleIndex x.target = r → x.kind = .standingRead →
    SlotRolesLawful x → f.kind = .read → f.count.toNat = x.segLen → data.length ≤ x.segLen →
    (y.state = .active ∨ y.state = .suspect ∨ y.state = .held) →
    let start := (if x.role1 = .filling then x.offset else x.offset2) + x.bytesDone
    let gives (code : ReplyCode) (stored : List Byte) (leaves : Bool) (z : Slot) : Prop :=
      ∃ t, exec (.replyTaken u (replyCharacters f.dest code attn f.toggle status data)) s = .next t
        ∧ t.slot n = { z with lastStatus := some status } ∧ OtherSlots n s t
        ∧ t.station r = attnTaken s r (attn && y.armed) { y with
            missCount := 0, lastStatus := some status
            nextToggle := if code = .ack then !y.nextToggle else y.nextToggle
            state := if y.state = .suspect then .active else y.state
            pollTimer := if y.state = .held then y.pollTimer else startTimer (s.params.get (1 + y.pollClass.val))
            queue := if leaves then y.queue.filter (· ≠ n) else y.queue }
        ∧ OtherStations r s t ∧ AttnListed s t r (attn && y.armed) y.priority
        ∧ (y.state = .suspect → Reported r s t) ∧ (y.state ≠ .suspect → Unreported s t)
        ∧ (∀ k, k < stored.length → some (t.buffer.read (start + k)) = stored[k]?)
        ∧ (∀ a, ¬(start ≤ a ∧ a < start + stored.length) → t.buffer.read a = s.buffer.read a)
        ∧ t.trunk u = trunkAfterFrame s (s.trunk u) ∧ OtherTrunk u s t
        ∧ t = { s with
            stations := t.stations, slots := t.slots, serviceLists := t.serviceLists, trunkA := t.trunkA
            trunkB := t.trunkB, changeFlags := t.changeFlags, seenMarks := t.seenMarks, buffer := t.buffer
            interruptLine := lineLevel t }
    (data.length = x.segLen → start + data.length ≤ 16384 →
      let z : Slot := { x with
        bytesDone := x.bytesDone + x.segLen, bytesTransferred := x.bytesTransferred + x.segLen }
      (x.length ≤ z.bytesDone → gives .ack data true (resting (cycleDone z)))
      ∧ (z.bytesDone < x.length → gives .ack data false { z with
          segToggle := none, curSegment := x.curSegment + 1, retries := 0, repeats := 0, pendingStep := .first }))
    ∧ (data.length < x.segLen → start + data.length ≤ 16384 →
        gives .ack data true (resting (cycleFailed
          { x with bytesTransferred := x.bytesTransferred + data.length })))
    ∧ gives .busy [] true (resting (cycleFailed x))
    ∧ gives .reject [] true (resting (cycleFailed x))

/-- The frame of a slot with cancel requested, or of a RETIRING record's slot, ends with a good reply; or a RETIRING
record's ends with a miss (R18, R59, R101). An ACK stores its data and counts; the slot completes with the code of an ACK
that completes the exchange, else CANCELLED if cancel requested is set, else RETIRED; a standing read takes the successful end
of its cycle first, if the ACK gives it. A RETIRING record takes nothing of the outcome and becomes VACANT; any other record
takes the reply as for any exchange, its ATTN included. The model's readings: SWEEP_LIMIT stands beside the codes R59 lists
(log 15), a standing read's short ACK is no successful end (log 16), and bytes done stays at a short ACK (log 23). The model's
choice: bytes done grows at a full ACK, and a slot that completes CANCELLED or RETIRED at an ACK that leaves segments has moved
to its next segment (log 35). -/
def Obligations.CancelledOrRetiringExchangeEnds : Prop :=
  ∀ (s : State) (u : TrunkId) (r : RecIdx) (n : SlotIdx),
    let x := s.slot n
    let y := s.station r
    let instead : CompletionCode := if x.cancelRequested then .cancelled else .retired
    x.state = .active → handleIndex x.target = r → SlotRolesLawful x →
    (∀ (f : Frame) (reply : ReplyCode) (attn : Bool) (status : Byte) (data : List Byte),
      Receiving s u (.exchange n r) f → (s.trunk u).strayCount ≤ 65535 → BufferCanonical s →
      let standing := decide (x.kind = .standingRead)
      let reads := decide (x.kind = .read ∨ x.kind = .sweepRead ∨ x.kind = .standingRead)
      let acked := decide (reply = .ack)
      let start := (if standing && decide (x.role1 ≠ .filling) then x.offset2 else x.offset) + x.bytesDone
      (reads = true ∧ f.kind = .read ∨ x.kind = .write ∧ f.kind = .write ∨ x.kind = .control ∧ f.kind = .control) →
      f.count.toNat = x.segLen → x.segLen ≤ 64 → data.length ≤ x.segLen → (reads = false → data = []) →
      start + data.length ≤ 16384 →
      (y.state = .retiring ∨ x.cancelRequested = true ∧ (y.state = .active ∨ y.state = .suspect ∨ y.state = .held)) →
      let short := reads && decide (data.length < x.segLen)
      let carried := if reads then data.length else x.segLen
      let done := if short then x.bytesDone else x.bytesDone + x.segLen
      let z : Slot := if acked then { x with
          lastStatus := some status, bytesDone := done, bytesTransferred := x.bytesTransferred + carried }
        else { x with lastStatus := some status }
      let own : Option CompletionCode :=
        if !acked then none
        else if short then some .doneShort
        else if x.length ≤ done then some (if x.skipped = 0 then .done else .doneSkipped)
        else if x.kind = .sweepRead ∧ x.curSub = 255 then some .sweepLimit else none
      let last : Slot := if acked && own.isNone then { z with
          curSegment := x.curSegment + 1, curSub := if x.kind = .sweepRead then x.curSub + 1 else x.curSub
          retries := 0, repeats := 0, pendingStep := .first }
        else if standing && decide (own = some .done) then cycleDone z
        else z
      let stored : List Byte := if acked then data else []
      let taken := attn && y.armed && decide (y.state ≠ .retiring)
      ∃ t, exec (.replyTaken u (replyCharacters f.dest reply attn f.toggle status data)) s = .next t
        ∧ t.slot n = completed (if standing then instead else own.getD instead) last
        ∧ OtherSlots n s t ∧ t.completions = s.completions.set n true
        ∧ (y.state = .retiring →
            t.station r = { vacated y with queue := y.queue.filter (· ≠ n) }
            ∧ Reported r s t ∧ ∀ b, t.indexOf b = if b = y.address then none else s.indexOf b)
        ∧ (y.state ≠ .retiring →
            t.station r = attnTaken s r taken { y with
              missCount := 0, lastStatus := some status
              nextToggle := if acked then !y.nextToggle else y.nextToggle
              state := if y.state = .suspect then .active else y.state
              pollTimer := if y.state = .held then y.pollTimer else startTimer (s.params.get (1 + y.pollClass.val))
              queue := y.queue.filter (· ≠ n) }
            ∧ t.index = s.index ∧ (y.state = .suspect → Reported r s t)
            ∧ (y.state ≠ .suspect → Unreported s t))
        ∧ OtherStations r s t ∧ AttnListed s t r taken y.priority
        ∧ (∀ k, k < stored.length → some (t.buffer.read (start + k)) = stored[k]?)
        ∧ (∀ a, ¬(start ≤ a ∧ a < start + stored.length) → t.buffer.read a = s.buffer.read a)
        ∧ t.trunk u = trunkAfterFrame s (s.trunk u) ∧ OtherTrunk u s t
        ∧ t = { s with
            stations := t.stations, index := t.index, slots := t.slots, serviceLists := t.serviceLists
            trunkA := t.trunkA, trunkB := t.trunkB, completions := t.completions, changeFlags := t.changeFlags
            seenMarks := t.seenMarks, buffer := t.buffer, interruptLine := lineLevel t })
    ∧ (y.state = .retiring → x.kind ≠ .groupWrite → (s.trunk u).strayCount ≤ 65535 →
        ∀ i m, EndsInMiss s u (.exchange n r) i m →
        ∃ t, exec i s = .next t
          ∧ t.slot n = completed instead x ∧ OtherSlots n s t ∧ t.completions = s.completions.set n true
          ∧ t.station r = { vacated y with queue := y.queue.filter (· ≠ n) } ∧ OtherStations r s t
          ∧ Reported r s t ∧ (∀ b, t.indexOf b = if b = y.address then none else s.indexOf b)
          ∧ t.trunk u = trunkAfter i s (s.trunk u) ∧ OtherTrunk u s t
          ∧ t = { s with
              stations := t.stations, index := t.index, slots := t.slots, trunkA := t.trunkA, trunkB := t.trunkB
              completions := t.completions, changeFlags := t.changeFlags, seenMarks := t.seenMarks
              interruptLine := lineLevel t })

/-- A miss on an exchange frame, by the reply window's expiry or by a bad reply, counts; at LOST_AT the station
enters LOST with its queue failed, a slot with cancel requested CANCELLED; else an ACTIVE one at SUSPECT_AT becomes SUSPECT,
and the slot waits for a retry. A slot with cancel requested, which completes CANCELLED, and one at RETRY_LIMIT, which
completes NO_RESPONSE or LINE_ERROR, or is a standing read whose cycle fails, leave their segment in doubt (R59, R76, R86,
R99, R115, R116, R117, R119, R120, R157). -/
def Obligations.MissRetriesOrFails : Prop :=
  ∀ (s : State) (u : TrunkId) (r : RecIdx) (n : SlotIdx) (i : Instr) (m : Miss), EndsInMiss s u (.exchange n r) i m →
    QueuesLawful s → (s.trunk u).strayCount ≤ 65535 →
    let x := s.slot n
    let y := s.station r
    x.state = .active → n ∈ y.queue →
    (y.state = .active ∨ y.state = .suspect ∨ y.state = .held) →
    let count := min 15 (y.missCount + 1)
    let fault : LastFault := if m = .noReply then .noResponse else .lineError
    let suspects : Prop := y.state = .active ∧ s.params.suspectAt ≤ count
    let counted : Station := { y with
      missCount := count, state := if suspects then .suspect else y.state
      lastFault := if suspects then fault else y.lastFault
      pollTimer := if suspects then startTimer s.params.pollPeriod0 else y.pollTimer }
    let doubtful := decide (y.state ≠ .held)
    let rests := decide (x.kind = .standingRead) && !x.cancelRequested
    ∃ t, exec i s = .next t
      ∧ (s.params.lostAt ≤ count →
          t.station r = lostStation s fault { y with missCount := count } ∧ LostWithWork s t r (some n)
          ∧ ∀ w, (t.trunk w).resyncList = (s.trunk w).resyncList.filter (· ≠ r)
            ∧ (t.trunk w).pollDue = (s.trunk w).pollDue.filter (· ≠ r))
      ∧ (count < s.params.lostAt → x.cancelRequested = false → x.retries < s.params.retryLimit →
          t.station r = counted ∧ t.slot n = { x with pendingStep := .retry m } ∧ OtherSlots n s t
          ∧ t.completions = s.completions ∧ t.serviceLists = s.serviceLists
          ∧ (suspects → Reported r s t) ∧ (¬suspects → Unreported s t)
          ∧ ∀ w, (t.trunk w).resyncList = (s.trunk w).resyncList ∧ (t.trunk w).pollDue = (s.trunk w).pollDue)
      ∧ (count < s.params.lostAt → x.cancelRequested = true ∨ s.params.retryLimit ≤ x.retries →
          (rests = true → t.slot n = resting (cycleFailed x) ∧ t.completions = s.completions)
          ∧ (rests = false →
              t.slot n = completed (if x.cancelRequested then .cancelled
                else if m = .noReply then .noResponse else .lineError) x
              ∧ t.completions = s.completions.set n true)
          ∧ OtherSlots n s t ∧ t.serviceLists = s.serviceLists
          ∧ t.station r = { counted with
              queue := y.queue.filter (· ≠ n)
              resyncNeeded := y.resyncNeeded || !doubtful
              state := if doubtful then .recovering else counted.state
              pollTimer := if doubtful then none else counted.pollTimer
              resyncRetries := if doubtful then 0 else y.resyncRetries
              resyncRepeats := if doubtful then 0 else y.resyncRepeats
              resyncWait := if doubtful then none else y.resyncWait }
          ∧ (doubtful = true → Reported r s t) ∧ (doubtful = false → Unreported s t)
          ∧ ∀ w, (t.trunk w).pollDue =
                (if doubtful then (s.trunk w).pollDue.filter (· ≠ r) else (s.trunk w).pollDue)
            ∧ (t.trunk w).resyncList =
                if doubtful = true ∧ w = y.curTrunk then listed (s.trunk w).resyncList r else (s.trunk w).resyncList)
      ∧ OtherStations r s t
      ∧ (∀ w, t.trunk w = { (if w = u then trunkAfter i s (s.trunk w) else s.trunk w) with
          resyncList := (t.trunk w).resyncList, pollDue := (t.trunk w).pollDue })
      ∧ t = { s with
          stations := t.stations, slots := t.slots, serviceLists := t.serviceLists, trunkA := t.trunkA
          trunkB := t.trunkB, completions := t.completions, changeFlags := t.changeFlags, seenMarks := t.seenMarks
          interruptLine := lineLevel t }

/-- A good reply to a POLL, of any reply code, sets the miss count to 0 and the last status; a SUSPECT station becomes
ACTIVE, a LOST one RECOVERING on the trunk of its probe with a RESYNC requested; and then its ATTN is taken, if it is
armed, by its service condition. A miss counts and the timer is restarted; at LOST_AT the station enters LOST with its
queue failed, and before that an ACTIVE one at SUSPECT_AT becomes SUSPECT. A HELD station's count and last status change and
may take it to LOST, and no timer is restarted for it, nor for one that waits for a RESYNC (R16, R109, R114, R116, R118,
R119, R123, R134, R135). A RETIRING record takes nothing of the outcome and becomes VACANT (R18). -/
def Obligations.PollEndsByReplyOrMiss : Prop :=
  ∀ (s : State) (u : TrunkId) (r : RecIdx) (f : Frame) (code : ReplyCode) (attn echo : Bool) (status : Byte),
    (s.trunk u).strayCount ≤ 65535 →
    let y := s.station r
    let polled : Prop := y.state = .active ∨ y.state = .suspect
    let resyncs : Prop := y.state = .enrolling ∨ y.state = .recovering
    let vacates (i : Instr) : Prop := ∃ t, exec i s = .next t
      ∧ t.station r = vacated y ∧ OtherStations r s t ∧ Reported r s t
      ∧ (∀ b, t.indexOf b = if b = y.address then none else s.indexOf b)
      ∧ t.trunk u = trunkAfter i s (s.trunk u) ∧ OtherTrunk u s t
      ∧ t = { s with
          stations := t.stations, index := t.index, trunkA := t.trunkA, trunkB := t.trunkB
          changeFlags := t.changeFlags, seenMarks := t.seenMarks, interruptLine := lineLevel t }
    let reply : Instr := .replyTaken u (replyCharacters f.dest code attn echo status [])
    (Receiving s u (.poll r) f → f.kind = .poll → y.state = .retiring → vacates reply)
    ∧ (Receiving s u (.poll r) f → f.kind = .poll → (polled ∨ y.state = .lost ∨ y.state = .held ∨ resyncs) →
      let taken := attn && y.armed
      let lost := decide (y.state = .lost)
      ∃ t, exec reply s = .next t
        ∧ t.station r = attnTaken s r taken { y with
            missCount := 0, lastStatus := some status
            state := if lost then .recovering else if y.state = .suspect then .active else y.state
            curTrunk := if lost then u else y.curTrunk
            pollTimer := if lost then none
              else if y.state = .active ∨ y.state = .suspect then startTimer (s.params.get (1 + y.pollClass.val))
              else y.pollTimer
            resyncRetries := if lost then 0 else y.resyncRetries, resyncRepeats := if lost then 0 else y.resyncRepeats
            resyncWait := if lost then none else y.resyncWait }
        ∧ OtherStations r s t ∧ AttnListed s t r taken y.priority
        ∧ (y.state = .lost ∨ y.state = .suspect → Reported r s t)
        ∧ (y.state ≠ .lost → y.state ≠ .suspect → Unreported s t)
        ∧ (∀ w, t.trunk w = { (if w = u then trunkAfterFrame s (s.trunk w) else s.trunk w) with
            resyncList := if lost = true ∧ w = u then listed (s.trunk w).resyncList r else (s.trunk w).resyncList
            pollDue := if lost then (s.trunk w).pollDue.filter (· ≠ r) else (s.trunk w).pollDue })
        ∧ t = { s with
            stations := t.stations, serviceLists := t.serviceLists, trunkA := t.trunkA, trunkB := t.trunkB
            changeFlags := t.changeFlags, seenMarks := t.seenMarks, interruptLine := lineLevel t })
    ∧ ∀ i m, EndsInMiss s u (.poll r) i m →
        let count := min 15 (y.missCount + 1)
        let fault : LastFault := if m = .noReply then .noResponse else .lineError
        let suspects : Prop := y.state = .active ∧ s.params.suspectAt ≤ count
        (y.state = .retiring → vacates i)
        ∧ (y.state = .lost ∨ resyncs ∨ (polled ∨ y.state = .held) ∧ count < s.params.lostAt →
          ∃ t, exec i s = .next t
            ∧ t.station r = { y with
                missCount := count, state := if suspects then .suspect else y.state
                lastFault := if suspects then fault else y.lastFault
                pollTimer := if y.state = .lost then startTimer s.params.probePeriod
                  else if suspects ∨ y.state = .suspect then startTimer s.params.pollPeriod0
                  else if y.state = .active then startTimer (s.params.get (1 + y.pollClass.val))
                  else y.pollTimer }
            ∧ OtherStations r s t
            ∧ (suspects → Reported r s t) ∧ (¬suspects → Unreported s t)
            ∧ t.trunk u = trunkAfter i s (s.trunk u) ∧ OtherTrunk u s t
            ∧ t = { s with
                stations := t.stations, trunkA := t.trunkA, trunkB := t.trunkB, changeFlags := t.changeFlags
                seenMarks := t.seenMarks, interruptLine := lineLevel t })
        ∧ (polled ∨ y.state = .held → s.params.lostAt ≤ count → QueuesLawful s →
          ∃ t, exec i s = .next t
            ∧ t.station r = lostStation s fault { y with missCount := count }
            ∧ OtherStations r s t ∧ LostWithWork s t r none
            ∧ (∀ w, t.trunk w = { (if w = u then trunkAfter i s (s.trunk w) else s.trunk w) with
                resyncList := (s.trunk w).resyncList.filter (· ≠ r)
                pollDue := (s.trunk w).pollDue.filter (· ≠ r) })
            ∧ t = { s with
                stations := t.stations, slots := t.slots, serviceLists := t.serviceLists, trunkA := t.trunkA
                trunkB := t.trunkB, completions := t.completions, changeFlags := t.changeFlags
                seenMarks := t.seenMarks, interruptLine := lineLevel t })

/-- The end of a RESYNC of an ENROLLING or RECOVERING station: an ACK makes it ACTIVE with next toggle 0, and the head slot
of its queue, with a retry pending, completes NO_RESPONSE or LINE_ERROR or, a standing read, fails its cycle, and with a repeat
pending loses its segment toggle; a BUSY waits REPEAT_INTERVAL while repeats are left; a REJECT, and a BUSY or a miss beyond
RETRY_LIMIT, take the station to LOST with its work failed; and an earlier miss lists it again. The ATTN of a good reply is
taken, if the station is armed and not then LOST, by its service condition (R77, R99, R119, R120, R126, R127, R133, R134). A
RETIRING record takes nothing of the outcome and becomes VACANT (R18). -/
def Obligations.ResyncOutcomesDecideState : Prop :=
  ∀ (s : State) (u : TrunkId) (r : RecIdx) (f : Frame) (attn : Bool) (status : Byte),
    (s.trunk u).strayCount ≤ 65535 → QueuesLawful s →
    let y := s.station r
    let good : Station := { y with missCount := 0, lastStatus := some status }
    let count := min 15 (y.missCount + 1)
    let taken := attn && y.armed
    let framed (t : State) : Prop := t.trunk u = trunkAfterFrame s (s.trunk u) ∧ OtherTrunk u s t
    let keeps (t : State) : Prop := OtherStations r s t
      ∧ t = { s with
          stations := t.stations, slots := t.slots, serviceLists := t.serviceLists, trunkA := t.trunkA
          trunkB := t.trunkB, completions := t.completions, changeFlags := t.changeFlags, seenMarks := t.seenMarks
          interruptLine := lineLevel t }
    let sameSlots (t : State) : Prop := t.slots = s.slots ∧ t.completions = s.completions
    let loses (i : Instr) (fault : LastFault) (z : Station) : Prop := ∃ t, exec i s = .next t ∧ keeps t
      ∧ t.station r = lostStation s fault z ∧ LostWithWork s t r none
      ∧ ∀ w, t.trunk w = { (if w = u then trunkAfter i s (s.trunk w) else s.trunk w) with
          resyncList := (s.trunk w).resyncList.filter (· ≠ r), pollDue := (s.trunk w).pollDue.filter (· ≠ r) }
    let vacates (i : Instr) : Prop := ∃ t, exec i s = .next t
      ∧ t.station r = vacated y ∧ OtherStations r s t ∧ Reported r s t
      ∧ t.trunk u = trunkAfter i s (s.trunk u) ∧ OtherTrunk u s t
      ∧ (∀ b, t.indexOf b = if b = y.address then none else s.indexOf b)
      ∧ t = { s with
          stations := t.stations, index := t.index, trunkA := t.trunkA, trunkB := t.trunkB
          changeFlags := t.changeFlags, seenMarks := t.seenMarks, interruptLine := lineLevel t }
    let reply (code : ReplyCode) : Instr := .replyTaken u (replyCharacters f.dest code attn f.toggle status [])
    let fresh (leaves : Option SlotIdx) : Station := attnTaken s r taken { good with
      nextToggle := false, state := .active, lastFault := .none, resyncNeeded := false
      pollTimer := startTimer (s.params.get (1 + y.pollClass.val))
      queue := y.queue.filter fun n => decide (leaves ≠ some n) }
    let acks (t : State) : Prop := exec (reply .ack) s = .next t ∧ keeps t ∧ Reported r s t
      ∧ AttnListed s t r taken y.priority ∧ framed t
    (Receiving s u (.resync r) f → f.kind = .resync → y.state = .retiring → ∀ code, vacates (reply code))
    ∧ (Receiving s u (.resync r) f → f.kind = .resync → (y.state = .enrolling ∨ y.state = .recovering) →
      ((∀ n, y.queue.head? = some n → (s.slot n).state = .queued ∨
          (s.slot n).state = .active ∧ (s.slot n).pendingStep = .first) →
        ∃ t, acks t ∧ t.station r = fresh none ∧ sameSlots t)
      ∧ (∀ n, y.queue.head? = some n → (s.slot n).state = .repeatWait ∨
          (s.slot n).state = .active ∧ (s.slot n).pendingStep = .again →
        ∃ t, acks t ∧ t.station r = fresh none ∧ t.completions = s.completions
          ∧ t.slot n = { s.slot n with segToggle := none } ∧ OtherSlots n s t)
      ∧ (∀ n m, y.queue.head? = some n → (s.slot n).state = .active → (s.slot n).pendingStep = .retry m →
        ∃ t, acks t ∧ t.station r = fresh (some n) ∧ OtherSlots n s t
          ∧ ((s.slot n).kind = .standingRead →
              t.slot n = resting (cycleFailed (s.slot n)) ∧ t.completions = s.completions)
          ∧ ((s.slot n).kind ≠ .standingRead →
              t.slot n = completed (if m = .noReply then .noResponse else .lineError) (s.slot n)
              ∧ t.completions = s.completions.set n true))
      ∧ (y.resyncRepeats < s.params.retryLimit → ∃ t, exec (reply .busy) s = .next t ∧ keeps t ∧ sameSlots t
          ∧ t.station r = attnTaken s r taken { good with
              resyncRepeats := y.resyncRepeats + 1, resyncWait := startTimer s.params.repeatInterval }
          ∧ AttnListed s t r taken y.priority ∧ Unreported s t ∧ framed t)
      ∧ (s.params.retryLimit ≤ y.resyncRepeats → loses (reply .busy) .noResponse good)
      ∧ loses (reply .reject) .resyncRejected good)
    ∧ ∀ i m, EndsInMiss s u (.resync r) i m →
        (y.state = .retiring → vacates i)
        ∧ ((y.state = .enrolling ∨ y.state = .recovering) →
          (y.resyncRetries < s.params.retryLimit →
            ∃ t, exec i s = .next t ∧ keeps t ∧ sameSlots t ∧ t.serviceLists = s.serviceLists ∧ Unreported s t
              ∧ t.station r = { y with missCount := count, resyncRetries := y.resyncRetries + 1 }
              ∧ ∀ w, t.trunk w = { (if w = u then trunkAfter i s (s.trunk w) else s.trunk w) with
                  resyncList := if w = y.curTrunk then listed (s.trunk w).resyncList r
                    else (s.trunk w).resyncList })
          ∧ (s.params.retryLimit ≤ y.resyncRetries →
              loses i (if m = .noReply then .noResponse else .lineError) { y with missCount := count }))

/-! ### Laws of the device, kept by every step -/

/-- The state after reset has every law, and no interrupt (R32, R64, R129, R147, R168, R179, R196). -/
def Obligations.ResetHasEveryLaw : Prop :=
  BufferCanonical State.reset ∧ LineLawful State.reset ∧ CompletionSetExact State.reset ∧ CodesLawful State.reset
  ∧ FlightsLawful State.reset ∧ BytesLawful State.reset
  ∧ RolesLawful State.reset ∧ StackLawful State.reset ∧ ServiceOnce State.reset ∧ ServiceCountsLawful State.reset
  ∧ CurrentTrunksLawful State.reset ∧ ParametersLawful State.reset
  ∧ IndexLawful State.reset ∧ RecordsLawful State.reset ∧ TrunksLawful State.reset ∧ ArbitersLawful State.reset
  ∧ QueuesLawful State.reset ∧ CountsLawful State.reset ∧ State.reset.interruptLine = false

/-- Every step keeps buffer memory in its canonical form, the interrupt line at the level the causes and the mask make
(R195), and every parameter in its range with SUSPECT_AT below LOST_AT (Table 9-4, R185). -/
def Obligations.EveryStepKeepsMemoryLineAndParameters : Prop :=
  ∀ s t : State, step s = .next t →
    (BufferCanonical s → BufferCanonical t) ∧ (LineLawful s → LineLawful t)
    ∧ (ParametersLawful s → ParametersLawful t)

/-- Every step keeps the completion set exactly the slots in COMPLETE (R192), and a completion code in every COMPLETE
slot (R46). -/
def Obligations.EveryStepKeepsCompletionSet : Prop :=
  ∀ s t : State, step s = .next t →
    (CompletionSetExact s → CompletionSetExact t) ∧ (CodesLawful s → CodesLawful t)

/-- Every step keeps the laws of the queues: single entry, at most one slot of a station under way and that the head, and at most eight standing reads (R36, R51, R53, R56). -/
def Obligations.EveryStepKeepsQueues : Prop :=
  ∀ s t : State, step s = .next t → QueuesLawful s → QueuesLawful t

/-- Every step keeps the frames in flight in agreement with their owners and the slots under way in their queues: one
frame for a station at most, an exchange frame's slot ACTIVE at the head of its station's queue, no queue at a LOST
station, and link lists of occupied records (R17, R53, R55, R111, R112, R120, R154). -/
def Obligations.EveryStepKeepsFlights : Prop :=
  ∀ s t : State, step s = .next t → QueuesLawful s → FlightsLawful s → FlightsLawful t

/-- Every step keeps the in-service stack strictly rising and at most 8 deep (R132), and every station at most once across
the pending lists and the stack, its coalesce count 1 or more exactly while it is pending and its re-raise flag yes only
while it is in service (R130, Table 6-2). -/
def Obligations.EveryStepKeepsServiceLaws : Prop :=
  ∀ s t : State, step s = .next t → (StackLawful s → StackLawful t) ∧ (ServiceOnce s → ServiceOnce t)
    ∧ (ServiceOnce s → ServiceCountsLawful s → ServiceCountsLawful t)

/-- Every step keeps the byte counts of the slots within their length (R37), the roles of the standing reads' buffers
(R94), and five of the counts that stop at a largest value within it: a slot's attempts at 255 (R37), its cycle misses and
overruns at 65535 (R94), a station's coalesce count at 255 (R135) and a trunk's stray count at 65535 (R159). It says nothing
of retries used, repeats used, current segment and skipped segments; the miss count is in EveryStepKeepsDirectoryAndTrunks. -/
def Obligations.EveryStepKeepsSlotLaws : Prop :=
  ∀ s t : State, step s = .next t →
    (BytesLawful s → BytesLawful t) ∧ (RolesLawful s → RolesLawful t) ∧ (CountsLawful s → CountsLawful t)

/-- Every step keeps the address index exact (R4), the record fields in their ranges (Table 1-1), every record's current
trunk, and the trunk of its polls, its home or its alternate trunk (R6, R110), every trunk that is not
ONLINE at rest and every served station's current trunk ONLINE (section 7.6), a held line at the non-idle level (R148; the
record of the level is the model's, log 12), and each arbiter's order one of the three sources (R161). -/
def Obligations.EveryStepKeepsDirectoryAndTrunks : Prop :=
  ∀ s t : State, step s = .next t →
    (IndexLawful s → IndexLawful t) ∧ (RecordsLawful s → RecordsLawful t) ∧ (TrunksLawful s → TrunksLawful t)
    ∧ (ArbitersLawful s → ArbitersLawful t)
    ∧ (QueuesLawful s → FlightsLawful s → CurrentTrunksLawful s → CurrentTrunksLawful t)
end

