-- ==== Sys2Proof/Laws/Buffer.lean ====
section
/-! SUPPORT. Buffer memory: every operation keeps the canonical form, a byte written is the byte read, other bytes stay,
and two memories that read alike are equal. -/

namespace Sys2Proof.Machine

/-- A list whose addresses lie above a bound lies above every lower bound. -/
theorem Memory.wfFrom_mono {lo lo' : Nat} {m : Memory} (h : lo' ≤ lo) (hm : Memory.wfFrom lo m = true) :
    Memory.wfFrom lo' m = true := by
  cases m with
  | nil => rfl
  | cons c m =>
    simp only [Memory.wfFrom, Bool.and_eq_true, decide_eq_true_eq] at hm ⊢
    exact ⟨⟨⟨by omega, hm.1.1.2⟩, hm.1.2⟩, hm.2⟩

/-- An address below every listed one reads what an unlisted byte reads. -/
theorem Memory.read_below {lo x : Nat} {m : Memory} (hm : Memory.wfFrom lo m = true) (h : x < lo) :
    m.read x = unlistedByte := by
  induction m generalizing lo with
  | nil => rfl
  | cons c m ih =>
    simp only [Memory.wfFrom, Bool.and_eq_true, decide_eq_true_eq] at hm
    rw [Memory.read, if_neg (by omega)]
    exact ih hm.2 (by omega)

/-- Putting a byte into a list in canonical form keeps the form. -/
theorem Memory.insert_wfFrom {lo x : Nat} {m : Memory} (v : Byte) (hm : Memory.wfFrom lo m = true) (hl : lo ≤ x)
    (hx : x < bufferSize) : Memory.wfFrom lo (m.insert x v) = true := by
  induction m generalizing lo with
  | nil =>
    unfold Memory.insert; split
    · rfl
    · simp_all [Memory.wfFrom]
  | cons c m ih =>
    obtain ⟨a, w⟩ := c
    have hc := hm
    simp only [Memory.wfFrom, Bool.and_eq_true, decide_eq_true_eq] at hc
    obtain ⟨⟨⟨h1, h2⟩, h3⟩, h4⟩ := hc
    unfold Memory.insert
    split
    · split
      · exact hm
      · simp only [Memory.wfFrom, Bool.and_eq_true, decide_eq_true_eq]
        exact ⟨⟨⟨hl, hx⟩, by assumption⟩, ⟨⟨by omega, h2⟩, h3⟩, h4⟩
    · split
      · split
        · exact Memory.wfFrom_mono (by omega) h4
        · rename_i he _; subst he
          simp only [Memory.wfFrom, Bool.and_eq_true, decide_eq_true_eq]
          exact ⟨⟨⟨h1, h2⟩, by assumption⟩, h4⟩
      · simp only [Memory.wfFrom, Bool.and_eq_true, decide_eq_true_eq]
        exact ⟨⟨⟨h1, h2⟩, h3⟩, ih h4 (by omega)⟩

/-- The byte put at an address is read there, and every other address reads as before. -/
theorem Memory.read_insert {lo : Nat} {m : Memory} (x y : Nat) (v : Byte) (hm : Memory.wfFrom lo m = true) :
    (m.insert x v).read y = if y = x then v else m.read y := by
  induction m generalizing lo with
  | nil =>
    unfold Memory.insert
    split
    · rename_i h; by_cases e : y = x <;> simp [Memory.read, e, h]
    · by_cases e : y = x
      · simp [Memory.read, e]
      · simp [Memory.read, e, Ne.symm e]
  | cons c m ih =>
    obtain ⟨a, w⟩ := c
    simp only [Memory.wfFrom, Bool.and_eq_true, decide_eq_true_eq] at hm
    obtain ⟨⟨⟨h1, h2⟩, h3⟩, h4⟩ := hm
    have hb : ∀ z, z ≤ a → Memory.read m z = unlistedByte := fun z hz => Memory.read_below h4 (by omega)
    unfold Memory.insert
    split
    · split
      · by_cases h : y = x
        · subst h; simp [Memory.read, show a ≠ y by omega, hb y (by omega), *]
        · simp [h]
      · simp only [Memory.read, eq_comm]
    · split
      · rename_i he; subst he
        split
        · by_cases h : y = x
          · subst h; simp [hb y (by omega), *]
          · simp [Memory.read, h, Ne.symm h]
        · by_cases h : y = x
          · subst h; simp [Memory.read]
          · simp [Memory.read, h, Ne.symm h]
      · simp only [Memory.read, ih h4]
        by_cases h : a = y
        · subst h; rw [if_pos rfl, if_neg (by omega)]; simp
        · simp [h]

/-- A write keeps the canonical form. -/
theorem Memory.write_wf {m : Memory} (x : Nat) (v : Byte) (hm : m.wf = true) : (m.write x v).wf = true := by
  unfold Memory.write
  split
  · exact Memory.insert_wfFrom v hm (Nat.zero_le x) (by assumption)
  · exact hm

/-- A write of consecutive bytes keeps the canonical form. -/
theorem Memory.writeBytes_wf {m : Memory} (x : Nat) (l : List Byte) (hm : m.wf = true) :
    (m.writeBytes x l).wf = true := by
  induction l generalizing m x with
  | nil => exact hm
  | cons v l ih => exact ih (x + 1) (Memory.write_wf x v hm)

/-- A byte written in buffer memory is read, and every other byte reads as before. -/
theorem Memory.read_write {m : Memory} (x y : Nat) (v : Byte) (hm : m.wf = true) :
    (m.write x v).read y = if y = x ∧ x < bufferSize then v else m.read y := by
  unfold Memory.write
  split
  · rw [Memory.read_insert x y v hm]; simp [*]
  · simp [*]

/-- What a write of consecutive bytes leaves: the bytes written where they lie, every other byte as before. -/
theorem Memory.read_writeBytes {m : Memory} (x y : Nat) (l : List Byte) (hm : m.wf = true)
    (h : x + l.length ≤ bufferSize) :
    (m.writeBytes x l).read y = if x ≤ y ∧ y < x + l.length then l.getD (y - x) 0 else m.read y := by
  induction l generalizing m x with
  | nil => rw [Memory.writeBytes, if_neg (by simp)]
  | cons v l ih =>
    simp only [List.length_cons] at h
    rw [Memory.writeBytes, ih (x + 1) (Memory.write_wf x v hm) (by omega), Memory.read_write x y v hm]
    by_cases h1 : y = x
    · subst h1; simp; intro; omega
    · by_cases h2 : x + 1 ≤ y ∧ y < x + 1 + l.length
      · have : y - x = (y - (x + 1)) + 1 := by omega
        rw [if_pos h2, if_pos (by simp; omega), this]; rfl
      · rw [if_neg h2, if_neg (by simp [h1]), if_neg (by simp; omega)]

/-- A byte outside those written reads as before, wherever the write lies. -/
theorem Memory.read_writeBytes_outside {m : Memory} (x y : Nat) (l : List Byte) (hm : m.wf = true)
    (h : y < x ∨ x + l.length ≤ y) : (m.writeBytes x l).read y = m.read y := by
  induction l generalizing m x with
  | nil => rfl
  | cons v l ih =>
    simp only [List.length_cons] at h
    rw [Memory.writeBytes, ih (x + 1) (Memory.write_wf x v hm) (by omega), Memory.read_write x y v hm,
      if_neg (by omega)]

/-- Memories in canonical form that read alike are equal. -/
theorem Memory.eq_of_read {lo : Nat} {m m' : Memory} (hm : Memory.wfFrom lo m = true)
    (hm' : Memory.wfFrom lo m' = true) (h : ∀ x, m.read x = m'.read x) : m = m' := by
  induction m generalizing lo m' with
  | nil =>
    cases m' with
    | nil => rfl
    | cons c m' =>
      simp only [Memory.wfFrom, Bool.and_eq_true, decide_eq_true_eq] at hm'
      exact absurd (by simpa [Memory.read] using (h c.1).symm) hm'.1.2
  | cons c m ih =>
    obtain ⟨a, v⟩ := c
    simp only [Memory.wfFrom, Bool.and_eq_true, decide_eq_true_eq] at hm
    cases m' with
    | nil => exact absurd (by simpa [Memory.read] using h a) hm.1.2
    | cons c' m' =>
      obtain ⟨b, w⟩ := c'
      simp only [Memory.wfFrom, Bool.and_eq_true, decide_eq_true_eq] at hm'
      have ha := h a
      have hb := h b
      simp only [Memory.read, if_true] at ha hb
      by_cases hab : a = b
      · subst hab
        simp only [if_true] at ha
        subst ha
        congr 1
        refine ih hm.2 hm'.2 fun x => ?_
        by_cases hx : x ≤ a
        · rw [Memory.read_below hm.2 (by omega), Memory.read_below hm'.2 (by omega)]
        · simpa [Memory.read, show a ≠ x by omega] using h x
      · rw [if_neg (Ne.symm hab)] at ha
        rw [if_neg hab] at hb
        rcases Nat.lt_or_gt_of_ne hab with hlt | hlt
        · exact absurd (ha.trans (Memory.read_below hm'.2 (by omega))) hm.1.2
        · exact absurd (hb.symm.trans (Memory.read_below hm.2 (by omega))) hm'.1.2

/-- The memory right after reset is in canonical form. -/
theorem reset_buffer_wf : State.reset.buffer.wf = true := rfl

end Sys2Proof.Machine
end

