-- ==== Sys2Proof/Laws/State.lean ====
section
/-! SUPPORT. The small lemmas of the state's accessors and updates, one per field and update, so that no proof
unfolds a record update. -/

namespace Sys2Proof.Machine

/-! ### Records -/

@[simp] theorem State.setStation_pending (s : State) (r : RecIdx) (x : Station) : (s.setStation r x).pending = s.pending := rfl
@[simp] theorem State.setStation_port (s : State) (r : RecIdx) (x : Station) : (s.setStation r x).port = s.port := rfl
@[simp] theorem State.setStation_index (s : State) (r : RecIdx) (x : Station) : (s.setStation r x).index = s.index := rfl
@[simp] theorem State.setStation_slots (s : State) (r : RecIdx) (x : Station) : (s.setStation r x).slots = s.slots := rfl
@[simp] theorem State.setStation_groupQueue (s : State) (r : RecIdx) (x : Station) : (s.setStation r x).groupQueue = s.groupQueue := rfl
@[simp] theorem State.setStation_serviceLists (s : State) (r : RecIdx) (x : Station) : (s.setStation r x).serviceLists = s.serviceLists := rfl
@[simp] theorem State.setStation_serviceStack (s : State) (r : RecIdx) (x : Station) : (s.setStation r x).serviceStack = s.serviceStack := rfl
@[simp] theorem State.setStation_trunkA (s : State) (r : RecIdx) (x : Station) : (s.setStation r x).trunkA = s.trunkA := rfl
@[simp] theorem State.setStation_trunkB (s : State) (r : RecIdx) (x : Station) : (s.setStation r x).trunkB = s.trunkB := rfl
@[simp] theorem State.setStation_completions (s : State) (r : RecIdx) (x : Station) : (s.setStation r x).completions = s.completions := rfl
@[simp] theorem State.setStation_changeFlags (s : State) (r : RecIdx) (x : Station) : (s.setStation r x).changeFlags = s.changeFlags := rfl
@[simp] theorem State.setStation_seenMarks (s : State) (r : RecIdx) (x : Station) : (s.setStation r x).seenMarks = s.seenMarks := rfl
@[simp] theorem State.setStation_enableMask (s : State) (r : RecIdx) (x : Station) : (s.setStation r x).enableMask = s.enableMask := rfl
@[simp] theorem State.setStation_interruptLine (s : State) (r : RecIdx) (x : Station) : (s.setStation r x).interruptLine = s.interruptLine := rfl
@[simp] theorem State.setStation_buffer (s : State) (r : RecIdx) (x : Station) : (s.setStation r x).buffer = s.buffer := rfl
@[simp] theorem State.setStation_busRead (s : State) (r : RecIdx) (x : Station) : (s.setStation r x).busRead = s.busRead := rfl
@[simp] theorem State.setStation_freeCount (s : State) (r : RecIdx) (x : Station) : (s.setStation r x).freeCount = s.freeCount := rfl
@[simp] theorem State.setStation_slot (s : State) (r : RecIdx) (x : Station) (m : SlotIdx) : (s.setStation r x).slot m = s.slot m := rfl
@[simp] theorem State.setStation_trunk (s : State) (r : RecIdx) (x : Station) (u : TrunkId) : (s.setStation r x).trunk u = s.trunk u := rfl
@[simp] theorem State.setStation_params (s : State) (r : RecIdx) (x : Station) : (s.setStation r x).params = s.params := rfl
@[simp] theorem State.setStation_indexOf (s : State) (r : RecIdx) (x : Station) (a : Byte) : (s.setStation r x).indexOf a = s.indexOf a := rfl
@[simp] theorem State.setStation_isOnline (s : State) (r : RecIdx) (x : Station) (u : TrunkId) : (s.setStation r x).isOnline u = s.isOnline u := rfl
@[simp] theorem State.setStation_flightOwner (s : State) (r : RecIdx) (x : Station) (u : TrunkId) : (s.setStation r x).flightOwner u = s.flightOwner u := rfl

@[simp] theorem State.modStation_pending (s : State) (r : RecIdx) (f : Station → Station) : (s.modStation r f).pending = s.pending := rfl
@[simp] theorem State.modStation_port (s : State) (r : RecIdx) (f : Station → Station) : (s.modStation r f).port = s.port := rfl
@[simp] theorem State.modStation_index (s : State) (r : RecIdx) (f : Station → Station) : (s.modStation r f).index = s.index := rfl
@[simp] theorem State.modStation_slots (s : State) (r : RecIdx) (f : Station → Station) : (s.modStation r f).slots = s.slots := rfl
@[simp] theorem State.modStation_groupQueue (s : State) (r : RecIdx) (f : Station → Station) : (s.modStation r f).groupQueue = s.groupQueue := rfl
@[simp] theorem State.modStation_serviceLists (s : State) (r : RecIdx) (f : Station → Station) : (s.modStation r f).serviceLists = s.serviceLists := rfl
@[simp] theorem State.modStation_serviceStack (s : State) (r : RecIdx) (f : Station → Station) : (s.modStation r f).serviceStack = s.serviceStack := rfl
@[simp] theorem State.modStation_trunkA (s : State) (r : RecIdx) (f : Station → Station) : (s.modStation r f).trunkA = s.trunkA := rfl
@[simp] theorem State.modStation_trunkB (s : State) (r : RecIdx) (f : Station → Station) : (s.modStation r f).trunkB = s.trunkB := rfl
@[simp] theorem State.modStation_completions (s : State) (r : RecIdx) (f : Station → Station) : (s.modStation r f).completions = s.completions := rfl
@[simp] theorem State.modStation_changeFlags (s : State) (r : RecIdx) (f : Station → Station) : (s.modStation r f).changeFlags = s.changeFlags := rfl
@[simp] theorem State.modStation_seenMarks (s : State) (r : RecIdx) (f : Station → Station) : (s.modStation r f).seenMarks = s.seenMarks := rfl
@[simp] theorem State.modStation_enableMask (s : State) (r : RecIdx) (f : Station → Station) : (s.modStation r f).enableMask = s.enableMask := rfl
@[simp] theorem State.modStation_interruptLine (s : State) (r : RecIdx) (f : Station → Station) : (s.modStation r f).interruptLine = s.interruptLine := rfl
@[simp] theorem State.modStation_buffer (s : State) (r : RecIdx) (f : Station → Station) : (s.modStation r f).buffer = s.buffer := rfl
@[simp] theorem State.modStation_busRead (s : State) (r : RecIdx) (f : Station → Station) : (s.modStation r f).busRead = s.busRead := rfl
@[simp] theorem State.modStation_freeCount (s : State) (r : RecIdx) (f : Station → Station) : (s.modStation r f).freeCount = s.freeCount := rfl
@[simp] theorem State.modStation_slot (s : State) (r : RecIdx) (f : Station → Station) (m : SlotIdx) : (s.modStation r f).slot m = s.slot m := rfl
@[simp] theorem State.modStation_trunk (s : State) (r : RecIdx) (f : Station → Station) (u : TrunkId) : (s.modStation r f).trunk u = s.trunk u := rfl
@[simp] theorem State.modStation_params (s : State) (r : RecIdx) (f : Station → Station) : (s.modStation r f).params = s.params := rfl
@[simp] theorem State.modStation_indexOf (s : State) (r : RecIdx) (f : Station → Station) (a : Byte) : (s.modStation r f).indexOf a = s.indexOf a := rfl
@[simp] theorem State.modStation_isOnline (s : State) (r : RecIdx) (f : Station → Station) (u : TrunkId) : (s.modStation r f).isOnline u = s.isOnline u := rfl
@[simp] theorem State.modStation_flightOwner (s : State) (r : RecIdx) (f : Station → Station) (u : TrunkId) : (s.modStation r f).flightOwner u = s.flightOwner u := rfl

/-- Reading a record after one is replaced. -/
theorem State.setStation_station (s : State) (r q : RecIdx) (x : Station) :
    (s.setStation r x).station q = if q = r then x else s.station q := by
  simp only [State.setStation, State.station, Vector.getElem_set, Fin.getElem_fin, Fin.ext_iff]
  by_cases h : r.val = q.val <;> simp [h, eq_comm]

@[simp] theorem State.setStation_station_self (s : State) (r : RecIdx) (x : Station) :
    (s.setStation r x).station r = x := by simp [State.setStation_station]

@[simp] theorem State.setStation_station_ne (s : State) {r q : RecIdx} (x : Station) (h : q ≠ r) :
    (s.setStation r x).station q = s.station q := by simp [State.setStation_station, h]

/-- Reading a record after one is changed. -/
theorem State.modStation_station (s : State) (r q : RecIdx) (f : Station → Station) :
    (s.modStation r f).station q = if q = r then f (s.station r) else s.station q := by
  simp [State.modStation, State.setStation_station]

@[simp] theorem State.modStation_station_self (s : State) (r : RecIdx) (f : Station → Station) :
    (s.modStation r f).station r = f (s.station r) := by simp [State.modStation_station]

@[simp] theorem State.modStation_station_ne (s : State) {r q : RecIdx} (f : Station → Station) (h : q ≠ r) :
    (s.modStation r f).station q = s.station q := by simp [State.modStation_station, h]

/-! ### Slots -/

@[simp] theorem State.setSlot_pending (s : State) (n : SlotIdx) (x : Slot) : (s.setSlot n x).pending = s.pending := rfl
@[simp] theorem State.setSlot_port (s : State) (n : SlotIdx) (x : Slot) : (s.setSlot n x).port = s.port := rfl
@[simp] theorem State.setSlot_stations (s : State) (n : SlotIdx) (x : Slot) : (s.setSlot n x).stations = s.stations := rfl
@[simp] theorem State.setSlot_index (s : State) (n : SlotIdx) (x : Slot) : (s.setSlot n x).index = s.index := rfl
@[simp] theorem State.setSlot_groupQueue (s : State) (n : SlotIdx) (x : Slot) : (s.setSlot n x).groupQueue = s.groupQueue := rfl
@[simp] theorem State.setSlot_serviceLists (s : State) (n : SlotIdx) (x : Slot) : (s.setSlot n x).serviceLists = s.serviceLists := rfl
@[simp] theorem State.setSlot_serviceStack (s : State) (n : SlotIdx) (x : Slot) : (s.setSlot n x).serviceStack = s.serviceStack := rfl
@[simp] theorem State.setSlot_trunkA (s : State) (n : SlotIdx) (x : Slot) : (s.setSlot n x).trunkA = s.trunkA := rfl
@[simp] theorem State.setSlot_trunkB (s : State) (n : SlotIdx) (x : Slot) : (s.setSlot n x).trunkB = s.trunkB := rfl
@[simp] theorem State.setSlot_completions (s : State) (n : SlotIdx) (x : Slot) : (s.setSlot n x).completions = s.completions := rfl
@[simp] theorem State.setSlot_changeFlags (s : State) (n : SlotIdx) (x : Slot) : (s.setSlot n x).changeFlags = s.changeFlags := rfl
@[simp] theorem State.setSlot_seenMarks (s : State) (n : SlotIdx) (x : Slot) : (s.setSlot n x).seenMarks = s.seenMarks := rfl
@[simp] theorem State.setSlot_enableMask (s : State) (n : SlotIdx) (x : Slot) : (s.setSlot n x).enableMask = s.enableMask := rfl
@[simp] theorem State.setSlot_interruptLine (s : State) (n : SlotIdx) (x : Slot) : (s.setSlot n x).interruptLine = s.interruptLine := rfl
@[simp] theorem State.setSlot_buffer (s : State) (n : SlotIdx) (x : Slot) : (s.setSlot n x).buffer = s.buffer := rfl
@[simp] theorem State.setSlot_busRead (s : State) (n : SlotIdx) (x : Slot) : (s.setSlot n x).busRead = s.busRead := rfl
@[simp] theorem State.setSlot_freeCount (s : State) (n : SlotIdx) (x : Slot) : (s.setSlot n x).freeCount = s.freeCount := rfl
@[simp] theorem State.setSlot_station (s : State) (n : SlotIdx) (x : Slot) (q : RecIdx) : (s.setSlot n x).station q = s.station q := rfl
@[simp] theorem State.setSlot_trunk (s : State) (n : SlotIdx) (x : Slot) (u : TrunkId) : (s.setSlot n x).trunk u = s.trunk u := rfl
@[simp] theorem State.setSlot_params (s : State) (n : SlotIdx) (x : Slot) : (s.setSlot n x).params = s.params := rfl
@[simp] theorem State.setSlot_indexOf (s : State) (n : SlotIdx) (x : Slot) (a : Byte) : (s.setSlot n x).indexOf a = s.indexOf a := rfl
@[simp] theorem State.setSlot_isOnline (s : State) (n : SlotIdx) (x : Slot) (u : TrunkId) : (s.setSlot n x).isOnline u = s.isOnline u := rfl
@[simp] theorem State.setSlot_flightOwner (s : State) (n : SlotIdx) (x : Slot) (u : TrunkId) : (s.setSlot n x).flightOwner u = s.flightOwner u := rfl

@[simp] theorem State.modSlot_pending (s : State) (n : SlotIdx) (f : Slot → Slot) : (s.modSlot n f).pending = s.pending := rfl
@[simp] theorem State.modSlot_port (s : State) (n : SlotIdx) (f : Slot → Slot) : (s.modSlot n f).port = s.port := rfl
@[simp] theorem State.modSlot_stations (s : State) (n : SlotIdx) (f : Slot → Slot) : (s.modSlot n f).stations = s.stations := rfl
@[simp] theorem State.modSlot_index (s : State) (n : SlotIdx) (f : Slot → Slot) : (s.modSlot n f).index = s.index := rfl
@[simp] theorem State.modSlot_groupQueue (s : State) (n : SlotIdx) (f : Slot → Slot) : (s.modSlot n f).groupQueue = s.groupQueue := rfl
@[simp] theorem State.modSlot_serviceLists (s : State) (n : SlotIdx) (f : Slot → Slot) : (s.modSlot n f).serviceLists = s.serviceLists := rfl
@[simp] theorem State.modSlot_serviceStack (s : State) (n : SlotIdx) (f : Slot → Slot) : (s.modSlot n f).serviceStack = s.serviceStack := rfl
@[simp] theorem State.modSlot_trunkA (s : State) (n : SlotIdx) (f : Slot → Slot) : (s.modSlot n f).trunkA = s.trunkA := rfl
@[simp] theorem State.modSlot_trunkB (s : State) (n : SlotIdx) (f : Slot → Slot) : (s.modSlot n f).trunkB = s.trunkB := rfl
@[simp] theorem State.modSlot_completions (s : State) (n : SlotIdx) (f : Slot → Slot) : (s.modSlot n f).completions = s.completions := rfl
@[simp] theorem State.modSlot_changeFlags (s : State) (n : SlotIdx) (f : Slot → Slot) : (s.modSlot n f).changeFlags = s.changeFlags := rfl
@[simp] theorem State.modSlot_seenMarks (s : State) (n : SlotIdx) (f : Slot → Slot) : (s.modSlot n f).seenMarks = s.seenMarks := rfl
@[simp] theorem State.modSlot_enableMask (s : State) (n : SlotIdx) (f : Slot → Slot) : (s.modSlot n f).enableMask = s.enableMask := rfl
@[simp] theorem State.modSlot_interruptLine (s : State) (n : SlotIdx) (f : Slot → Slot) : (s.modSlot n f).interruptLine = s.interruptLine := rfl
@[simp] theorem State.modSlot_buffer (s : State) (n : SlotIdx) (f : Slot → Slot) : (s.modSlot n f).buffer = s.buffer := rfl
@[simp] theorem State.modSlot_busRead (s : State) (n : SlotIdx) (f : Slot → Slot) : (s.modSlot n f).busRead = s.busRead := rfl
@[simp] theorem State.modSlot_freeCount (s : State) (n : SlotIdx) (f : Slot → Slot) : (s.modSlot n f).freeCount = s.freeCount := rfl
@[simp] theorem State.modSlot_station (s : State) (n : SlotIdx) (f : Slot → Slot) (q : RecIdx) : (s.modSlot n f).station q = s.station q := rfl
@[simp] theorem State.modSlot_trunk (s : State) (n : SlotIdx) (f : Slot → Slot) (u : TrunkId) : (s.modSlot n f).trunk u = s.trunk u := rfl
@[simp] theorem State.modSlot_params (s : State) (n : SlotIdx) (f : Slot → Slot) : (s.modSlot n f).params = s.params := rfl
@[simp] theorem State.modSlot_indexOf (s : State) (n : SlotIdx) (f : Slot → Slot) (a : Byte) : (s.modSlot n f).indexOf a = s.indexOf a := rfl
@[simp] theorem State.modSlot_isOnline (s : State) (n : SlotIdx) (f : Slot → Slot) (u : TrunkId) : (s.modSlot n f).isOnline u = s.isOnline u := rfl
@[simp] theorem State.modSlot_flightOwner (s : State) (n : SlotIdx) (f : Slot → Slot) (u : TrunkId) : (s.modSlot n f).flightOwner u = s.flightOwner u := rfl

/-- Reading a slot after one is replaced. -/
theorem State.setSlot_slot (s : State) (n m : SlotIdx) (x : Slot) :
    (s.setSlot n x).slot m = if m = n then x else s.slot m := by
  simp only [State.setSlot, State.slot, Vector.getElem_set, Fin.getElem_fin, Fin.ext_iff]
  by_cases h : n.val = m.val <;> simp [h, eq_comm]

@[simp] theorem State.setSlot_slot_self (s : State) (n : SlotIdx) (x : Slot) : (s.setSlot n x).slot n = x := by
  simp [State.setSlot_slot]

@[simp] theorem State.setSlot_slot_ne (s : State) {n m : SlotIdx} (x : Slot) (h : m ≠ n) :
    (s.setSlot n x).slot m = s.slot m := by simp [State.setSlot_slot, h]

/-- Reading a slot after one is changed. -/
theorem State.modSlot_slot (s : State) (n m : SlotIdx) (f : Slot → Slot) :
    (s.modSlot n f).slot m = if m = n then f (s.slot n) else s.slot m := by
  simp [State.modSlot, State.setSlot_slot]

@[simp] theorem State.modSlot_slot_self (s : State) (n : SlotIdx) (f : Slot → Slot) :
    (s.modSlot n f).slot n = f (s.slot n) := by simp [State.modSlot_slot]

@[simp] theorem State.modSlot_slot_ne (s : State) {n m : SlotIdx} (f : Slot → Slot) (h : m ≠ n) :
    (s.modSlot n f).slot m = s.slot m := by simp [State.modSlot_slot, h]

/-! ### Trunks -/

@[simp] theorem State.setTrunk_pending (s : State) (t : TrunkId) (x : Trunk) : (s.setTrunk t x).pending = s.pending := by cases t <;> rfl
@[simp] theorem State.setTrunk_port (s : State) (t : TrunkId) (x : Trunk) : (s.setTrunk t x).port = s.port := by cases t <;> rfl
@[simp] theorem State.setTrunk_stations (s : State) (t : TrunkId) (x : Trunk) : (s.setTrunk t x).stations = s.stations := by cases t <;> rfl
@[simp] theorem State.setTrunk_index (s : State) (t : TrunkId) (x : Trunk) : (s.setTrunk t x).index = s.index := by cases t <;> rfl
@[simp] theorem State.setTrunk_slots (s : State) (t : TrunkId) (x : Trunk) : (s.setTrunk t x).slots = s.slots := by cases t <;> rfl
@[simp] theorem State.setTrunk_groupQueue (s : State) (t : TrunkId) (x : Trunk) : (s.setTrunk t x).groupQueue = s.groupQueue := by cases t <;> rfl
@[simp] theorem State.setTrunk_serviceLists (s : State) (t : TrunkId) (x : Trunk) : (s.setTrunk t x).serviceLists = s.serviceLists := by cases t <;> rfl
@[simp] theorem State.setTrunk_serviceStack (s : State) (t : TrunkId) (x : Trunk) : (s.setTrunk t x).serviceStack = s.serviceStack := by cases t <;> rfl
@[simp] theorem State.setTrunk_completions (s : State) (t : TrunkId) (x : Trunk) : (s.setTrunk t x).completions = s.completions := by cases t <;> rfl
@[simp] theorem State.setTrunk_changeFlags (s : State) (t : TrunkId) (x : Trunk) : (s.setTrunk t x).changeFlags = s.changeFlags := by cases t <;> rfl
@[simp] theorem State.setTrunk_seenMarks (s : State) (t : TrunkId) (x : Trunk) : (s.setTrunk t x).seenMarks = s.seenMarks := by cases t <;> rfl
@[simp] theorem State.setTrunk_enableMask (s : State) (t : TrunkId) (x : Trunk) : (s.setTrunk t x).enableMask = s.enableMask := by cases t <;> rfl
@[simp] theorem State.setTrunk_interruptLine (s : State) (t : TrunkId) (x : Trunk) : (s.setTrunk t x).interruptLine = s.interruptLine := by cases t <;> rfl
@[simp] theorem State.setTrunk_buffer (s : State) (t : TrunkId) (x : Trunk) : (s.setTrunk t x).buffer = s.buffer := by cases t <;> rfl
@[simp] theorem State.setTrunk_busRead (s : State) (t : TrunkId) (x : Trunk) : (s.setTrunk t x).busRead = s.busRead := by cases t <;> rfl
@[simp] theorem State.setTrunk_freeCount (s : State) (t : TrunkId) (x : Trunk) : (s.setTrunk t x).freeCount = s.freeCount := by cases t <;> rfl
@[simp] theorem State.setTrunk_station (s : State) (t : TrunkId) (x : Trunk) (q : RecIdx) : (s.setTrunk t x).station q = s.station q := by cases t <;> rfl
@[simp] theorem State.setTrunk_slot (s : State) (t : TrunkId) (x : Trunk) (m : SlotIdx) : (s.setTrunk t x).slot m = s.slot m := by cases t <;> rfl
@[simp] theorem State.setTrunk_params (s : State) (t : TrunkId) (x : Trunk) : (s.setTrunk t x).params = s.params := by cases t <;> rfl
@[simp] theorem State.setTrunk_indexOf (s : State) (t : TrunkId) (x : Trunk) (a : Byte) : (s.setTrunk t x).indexOf a = s.indexOf a := by cases t <;> rfl

@[simp] theorem State.modTrunk_pending (s : State) (t : TrunkId) (f : Trunk → Trunk) : (s.modTrunk t f).pending = s.pending := by cases t <;> rfl
@[simp] theorem State.modTrunk_port (s : State) (t : TrunkId) (f : Trunk → Trunk) : (s.modTrunk t f).port = s.port := by cases t <;> rfl
@[simp] theorem State.modTrunk_stations (s : State) (t : TrunkId) (f : Trunk → Trunk) : (s.modTrunk t f).stations = s.stations := by cases t <;> rfl
@[simp] theorem State.modTrunk_index (s : State) (t : TrunkId) (f : Trunk → Trunk) : (s.modTrunk t f).index = s.index := by cases t <;> rfl
@[simp] theorem State.modTrunk_slots (s : State) (t : TrunkId) (f : Trunk → Trunk) : (s.modTrunk t f).slots = s.slots := by cases t <;> rfl
@[simp] theorem State.modTrunk_groupQueue (s : State) (t : TrunkId) (f : Trunk → Trunk) : (s.modTrunk t f).groupQueue = s.groupQueue := by cases t <;> rfl
@[simp] theorem State.modTrunk_serviceLists (s : State) (t : TrunkId) (f : Trunk → Trunk) : (s.modTrunk t f).serviceLists = s.serviceLists := by cases t <;> rfl
@[simp] theorem State.modTrunk_serviceStack (s : State) (t : TrunkId) (f : Trunk → Trunk) : (s.modTrunk t f).serviceStack = s.serviceStack := by cases t <;> rfl
@[simp] theorem State.modTrunk_completions (s : State) (t : TrunkId) (f : Trunk → Trunk) : (s.modTrunk t f).completions = s.completions := by cases t <;> rfl
@[simp] theorem State.modTrunk_changeFlags (s : State) (t : TrunkId) (f : Trunk → Trunk) : (s.modTrunk t f).changeFlags = s.changeFlags := by cases t <;> rfl
@[simp] theorem State.modTrunk_seenMarks (s : State) (t : TrunkId) (f : Trunk → Trunk) : (s.modTrunk t f).seenMarks = s.seenMarks := by cases t <;> rfl
@[simp] theorem State.modTrunk_enableMask (s : State) (t : TrunkId) (f : Trunk → Trunk) : (s.modTrunk t f).enableMask = s.enableMask := by cases t <;> rfl
@[simp] theorem State.modTrunk_interruptLine (s : State) (t : TrunkId) (f : Trunk → Trunk) : (s.modTrunk t f).interruptLine = s.interruptLine := by cases t <;> rfl
@[simp] theorem State.modTrunk_buffer (s : State) (t : TrunkId) (f : Trunk → Trunk) : (s.modTrunk t f).buffer = s.buffer := by cases t <;> rfl
@[simp] theorem State.modTrunk_busRead (s : State) (t : TrunkId) (f : Trunk → Trunk) : (s.modTrunk t f).busRead = s.busRead := by cases t <;> rfl
@[simp] theorem State.modTrunk_freeCount (s : State) (t : TrunkId) (f : Trunk → Trunk) : (s.modTrunk t f).freeCount = s.freeCount := by cases t <;> rfl
@[simp] theorem State.modTrunk_station (s : State) (t : TrunkId) (f : Trunk → Trunk) (q : RecIdx) : (s.modTrunk t f).station q = s.station q := by cases t <;> rfl
@[simp] theorem State.modTrunk_slot (s : State) (t : TrunkId) (f : Trunk → Trunk) (m : SlotIdx) : (s.modTrunk t f).slot m = s.slot m := by cases t <;> rfl
@[simp] theorem State.modTrunk_params (s : State) (t : TrunkId) (f : Trunk → Trunk) : (s.modTrunk t f).params = s.params := by cases t <;> rfl
@[simp] theorem State.modTrunk_indexOf (s : State) (t : TrunkId) (f : Trunk → Trunk) (a : Byte) : (s.modTrunk t f).indexOf a = s.indexOf a := by cases t <;> rfl

@[simp] theorem State.setTrunk_trunk_self (s : State) (t : TrunkId) (x : Trunk) : (s.setTrunk t x).trunk t = x := by
  cases t <;> rfl

@[simp] theorem State.setTrunk_trunk_ne (s : State) {t u : TrunkId} (x : Trunk) (h : u ≠ t) :
    (s.setTrunk t x).trunk u = s.trunk u := by cases t <;> cases u <;> first | rfl | exact absurd rfl h

/-- Reading a trunk's controller after one is replaced. -/
theorem State.setTrunk_trunk (s : State) (t u : TrunkId) (x : Trunk) :
    (s.setTrunk t x).trunk u = if u = t then x else s.trunk u := by
  by_cases h : u = t
  · subst h; simp
  · simp [h]

@[simp] theorem State.modTrunk_trunk_self (s : State) (t : TrunkId) (f : Trunk → Trunk) :
    (s.modTrunk t f).trunk t = f (s.trunk t) := by cases t <;> rfl

@[simp] theorem State.modTrunk_trunk_ne (s : State) {t u : TrunkId} (f : Trunk → Trunk) (h : u ≠ t) :
    (s.modTrunk t f).trunk u = s.trunk u := by cases t <;> cases u <;> first | rfl | exact absurd rfl h

/-- Reading a trunk's controller after one is changed. -/
theorem State.modTrunk_trunk (s : State) (t u : TrunkId) (f : Trunk → Trunk) :
    (s.modTrunk t f).trunk u = if u = t then f (s.trunk t) else s.trunk u := by
  by_cases h : u = t
  · subst h; simp
  · simp [h]

/-! ### The address index, the report of a change, the interrupt line, the model's own fields -/

@[simp] theorem State.setIndex_pending (s : State) (b : Byte) (e : Option RecIdx) : (s.setIndex b e).pending = s.pending := rfl
@[simp] theorem State.setIndex_port (s : State) (b : Byte) (e : Option RecIdx) : (s.setIndex b e).port = s.port := rfl
@[simp] theorem State.setIndex_stations (s : State) (b : Byte) (e : Option RecIdx) : (s.setIndex b e).stations = s.stations := rfl
@[simp] theorem State.setIndex_slots (s : State) (b : Byte) (e : Option RecIdx) : (s.setIndex b e).slots = s.slots := rfl
@[simp] theorem State.setIndex_groupQueue (s : State) (b : Byte) (e : Option RecIdx) : (s.setIndex b e).groupQueue = s.groupQueue := rfl
@[simp] theorem State.setIndex_serviceLists (s : State) (b : Byte) (e : Option RecIdx) : (s.setIndex b e).serviceLists = s.serviceLists := rfl
@[simp] theorem State.setIndex_serviceStack (s : State) (b : Byte) (e : Option RecIdx) : (s.setIndex b e).serviceStack = s.serviceStack := rfl
@[simp] theorem State.setIndex_trunkA (s : State) (b : Byte) (e : Option RecIdx) : (s.setIndex b e).trunkA = s.trunkA := rfl
@[simp] theorem State.setIndex_trunkB (s : State) (b : Byte) (e : Option RecIdx) : (s.setIndex b e).trunkB = s.trunkB := rfl
@[simp] theorem State.setIndex_completions (s : State) (b : Byte) (e : Option RecIdx) : (s.setIndex b e).completions = s.completions := rfl
@[simp] theorem State.setIndex_changeFlags (s : State) (b : Byte) (e : Option RecIdx) : (s.setIndex b e).changeFlags = s.changeFlags := rfl
@[simp] theorem State.setIndex_seenMarks (s : State) (b : Byte) (e : Option RecIdx) : (s.setIndex b e).seenMarks = s.seenMarks := rfl
@[simp] theorem State.setIndex_enableMask (s : State) (b : Byte) (e : Option RecIdx) : (s.setIndex b e).enableMask = s.enableMask := rfl
@[simp] theorem State.setIndex_interruptLine (s : State) (b : Byte) (e : Option RecIdx) : (s.setIndex b e).interruptLine = s.interruptLine := rfl
@[simp] theorem State.setIndex_buffer (s : State) (b : Byte) (e : Option RecIdx) : (s.setIndex b e).buffer = s.buffer := rfl
@[simp] theorem State.setIndex_busRead (s : State) (b : Byte) (e : Option RecIdx) : (s.setIndex b e).busRead = s.busRead := rfl
@[simp] theorem State.setIndex_freeCount (s : State) (b : Byte) (e : Option RecIdx) : (s.setIndex b e).freeCount = s.freeCount := rfl
@[simp] theorem State.setIndex_station (s : State) (b : Byte) (e : Option RecIdx) (q : RecIdx) : (s.setIndex b e).station q = s.station q := rfl
@[simp] theorem State.setIndex_slot (s : State) (b : Byte) (e : Option RecIdx) (m : SlotIdx) : (s.setIndex b e).slot m = s.slot m := rfl
@[simp] theorem State.setIndex_trunk (s : State) (b : Byte) (e : Option RecIdx) (u : TrunkId) : (s.setIndex b e).trunk u = s.trunk u := rfl
@[simp] theorem State.setIndex_params (s : State) (b : Byte) (e : Option RecIdx) : (s.setIndex b e).params = s.params := rfl
@[simp] theorem State.setIndex_isOnline (s : State) (b : Byte) (e : Option RecIdx) (u : TrunkId) : (s.setIndex b e).isOnline u = s.isOnline u := rfl
@[simp] theorem State.setIndex_flightOwner (s : State) (b : Byte) (e : Option RecIdx) (u : TrunkId) : (s.setIndex b e).flightOwner u = s.flightOwner u := rfl

/-- Reading the address index after an entry is set. -/
theorem State.setIndex_indexOf (s : State) (a b : Byte) (e : Option RecIdx) :
    (s.setIndex a e).indexOf b = if b = a then e else s.indexOf b := by
  simp only [State.setIndex, State.indexOf, Vector.getElem_set, Fin.getElem_fin, BitVec.val_toFin]
  by_cases h : a = b
  · simp [h]
  · have : a.toNat ≠ b.toNat := fun e => h (BitVec.eq_of_toNat_eq e)
    simp [this, Ne.symm h]

@[simp] theorem report_pending (s : State) (r : RecIdx) : (report s r).pending = s.pending := rfl
@[simp] theorem report_port (s : State) (r : RecIdx) : (report s r).port = s.port := rfl
@[simp] theorem report_stations (s : State) (r : RecIdx) : (report s r).stations = s.stations := rfl
@[simp] theorem report_index (s : State) (r : RecIdx) : (report s r).index = s.index := rfl
@[simp] theorem report_slots (s : State) (r : RecIdx) : (report s r).slots = s.slots := rfl
@[simp] theorem report_groupQueue (s : State) (r : RecIdx) : (report s r).groupQueue = s.groupQueue := rfl
@[simp] theorem report_serviceLists (s : State) (r : RecIdx) : (report s r).serviceLists = s.serviceLists := rfl
@[simp] theorem report_serviceStack (s : State) (r : RecIdx) : (report s r).serviceStack = s.serviceStack := rfl
@[simp] theorem report_trunkA (s : State) (r : RecIdx) : (report s r).trunkA = s.trunkA := rfl
@[simp] theorem report_trunkB (s : State) (r : RecIdx) : (report s r).trunkB = s.trunkB := rfl
@[simp] theorem report_completions (s : State) (r : RecIdx) : (report s r).completions = s.completions := rfl
@[simp] theorem report_enableMask (s : State) (r : RecIdx) : (report s r).enableMask = s.enableMask := rfl
@[simp] theorem report_interruptLine (s : State) (r : RecIdx) : (report s r).interruptLine = s.interruptLine := rfl
@[simp] theorem report_buffer (s : State) (r : RecIdx) : (report s r).buffer = s.buffer := rfl
@[simp] theorem report_busRead (s : State) (r : RecIdx) : (report s r).busRead = s.busRead := rfl
@[simp] theorem report_freeCount (s : State) (r : RecIdx) : (report s r).freeCount = s.freeCount := rfl
@[simp] theorem report_station (s : State) (r : RecIdx) (q : RecIdx) : (report s r).station q = s.station q := rfl
@[simp] theorem report_slot (s : State) (r : RecIdx) (m : SlotIdx) : (report s r).slot m = s.slot m := rfl
@[simp] theorem report_trunk (s : State) (r : RecIdx) (u : TrunkId) : (report s r).trunk u = s.trunk u := rfl
@[simp] theorem report_params (s : State) (r : RecIdx) : (report s r).params = s.params := rfl
@[simp] theorem report_indexOf (s : State) (r : RecIdx) (a : Byte) : (report s r).indexOf a = s.indexOf a := rfl
@[simp] theorem report_isOnline (s : State) (r : RecIdx) (u : TrunkId) : (report s r).isOnline u = s.isOnline u := rfl
@[simp] theorem report_flightOwner (s : State) (r : RecIdx) (u : TrunkId) : (report s r).flightOwner u = s.flightOwner u := rfl

@[simp] theorem settle_pending (s : State) : (settle s).pending = s.pending := rfl
@[simp] theorem settle_port (s : State) : (settle s).port = s.port := rfl
@[simp] theorem settle_stations (s : State) : (settle s).stations = s.stations := rfl
@[simp] theorem settle_index (s : State) : (settle s).index = s.index := rfl
@[simp] theorem settle_slots (s : State) : (settle s).slots = s.slots := rfl
@[simp] theorem settle_groupQueue (s : State) : (settle s).groupQueue = s.groupQueue := rfl
@[simp] theorem settle_serviceLists (s : State) : (settle s).serviceLists = s.serviceLists := rfl
@[simp] theorem settle_serviceStack (s : State) : (settle s).serviceStack = s.serviceStack := rfl
@[simp] theorem settle_trunkA (s : State) : (settle s).trunkA = s.trunkA := rfl
@[simp] theorem settle_trunkB (s : State) : (settle s).trunkB = s.trunkB := rfl
@[simp] theorem settle_completions (s : State) : (settle s).completions = s.completions := rfl
@[simp] theorem settle_changeFlags (s : State) : (settle s).changeFlags = s.changeFlags := rfl
@[simp] theorem settle_seenMarks (s : State) : (settle s).seenMarks = s.seenMarks := rfl
@[simp] theorem settle_enableMask (s : State) : (settle s).enableMask = s.enableMask := rfl
@[simp] theorem settle_buffer (s : State) : (settle s).buffer = s.buffer := rfl
@[simp] theorem settle_busRead (s : State) : (settle s).busRead = s.busRead := rfl
@[simp] theorem settle_freeCount (s : State) : (settle s).freeCount = s.freeCount := rfl
@[simp] theorem settle_station (s : State) (q : RecIdx) : (settle s).station q = s.station q := rfl
@[simp] theorem settle_slot (s : State) (m : SlotIdx) : (settle s).slot m = s.slot m := rfl
@[simp] theorem settle_trunk (s : State) (u : TrunkId) : (settle s).trunk u = s.trunk u := rfl
@[simp] theorem settle_params (s : State) : (settle s).params = s.params := rfl
@[simp] theorem settle_indexOf (s : State) (a : Byte) : (settle s).indexOf a = s.indexOf a := rfl
@[simp] theorem settle_isOnline (s : State) (u : TrunkId) : (settle s).isOnline u = s.isOnline u := rfl
@[simp] theorem settle_flightOwner (s : State) (u : TrunkId) : (settle s).flightOwner u = s.flightOwner u := rfl

@[simp] theorem returned_pending (s : State) (p : Part) (v : Word) : (returned s p v).pending = s.pending := rfl
@[simp] theorem returned_port (s : State) (p : Part) (v : Word) : (returned s p v).port = s.port := rfl
@[simp] theorem returned_stations (s : State) (p : Part) (v : Word) : (returned s p v).stations = s.stations := rfl
@[simp] theorem returned_index (s : State) (p : Part) (v : Word) : (returned s p v).index = s.index := rfl
@[simp] theorem returned_slots (s : State) (p : Part) (v : Word) : (returned s p v).slots = s.slots := rfl
@[simp] theorem returned_groupQueue (s : State) (p : Part) (v : Word) : (returned s p v).groupQueue = s.groupQueue := rfl
@[simp] theorem returned_serviceLists (s : State) (p : Part) (v : Word) : (returned s p v).serviceLists = s.serviceLists := rfl
@[simp] theorem returned_serviceStack (s : State) (p : Part) (v : Word) : (returned s p v).serviceStack = s.serviceStack := rfl
@[simp] theorem returned_trunkA (s : State) (p : Part) (v : Word) : (returned s p v).trunkA = s.trunkA := rfl
@[simp] theorem returned_trunkB (s : State) (p : Part) (v : Word) : (returned s p v).trunkB = s.trunkB := rfl
@[simp] theorem returned_completions (s : State) (p : Part) (v : Word) : (returned s p v).completions = s.completions := rfl
@[simp] theorem returned_changeFlags (s : State) (p : Part) (v : Word) : (returned s p v).changeFlags = s.changeFlags := rfl
@[simp] theorem returned_seenMarks (s : State) (p : Part) (v : Word) : (returned s p v).seenMarks = s.seenMarks := rfl
@[simp] theorem returned_enableMask (s : State) (p : Part) (v : Word) : (returned s p v).enableMask = s.enableMask := rfl
@[simp] theorem returned_interruptLine (s : State) (p : Part) (v : Word) : (returned s p v).interruptLine = s.interruptLine := rfl
@[simp] theorem returned_buffer (s : State) (p : Part) (v : Word) : (returned s p v).buffer = s.buffer := rfl
@[simp] theorem returned_freeCount (s : State) (p : Part) (v : Word) : (returned s p v).freeCount = s.freeCount := rfl
@[simp] theorem returned_station (s : State) (p : Part) (v : Word) (q : RecIdx) : (returned s p v).station q = s.station q := rfl
@[simp] theorem returned_slot (s : State) (p : Part) (v : Word) (m : SlotIdx) : (returned s p v).slot m = s.slot m := rfl
@[simp] theorem returned_trunk (s : State) (p : Part) (v : Word) (u : TrunkId) : (returned s p v).trunk u = s.trunk u := rfl
@[simp] theorem returned_params (s : State) (p : Part) (v : Word) : (returned s p v).params = s.params := rfl
@[simp] theorem returned_indexOf (s : State) (p : Part) (v : Word) (a : Byte) : (returned s p v).indexOf a = s.indexOf a := rfl
@[simp] theorem returned_isOnline (s : State) (p : Part) (v : Word) (u : TrunkId) : (returned s p v).isOnline u = s.isOnline u := rfl
@[simp] theorem returned_flightOwner (s : State) (p : Part) (v : Word) (u : TrunkId) : (returned s p v).flightOwner u = s.flightOwner u := rfl

@[simp] theorem drawn_pending (s : State) : (drawn s).pending = s.pending := rfl
@[simp] theorem drawn_port (s : State) : (drawn s).port = s.port := rfl
@[simp] theorem drawn_stations (s : State) : (drawn s).stations = s.stations := rfl
@[simp] theorem drawn_index (s : State) : (drawn s).index = s.index := rfl
@[simp] theorem drawn_slots (s : State) : (drawn s).slots = s.slots := rfl
@[simp] theorem drawn_groupQueue (s : State) : (drawn s).groupQueue = s.groupQueue := rfl
@[simp] theorem drawn_serviceLists (s : State) : (drawn s).serviceLists = s.serviceLists := rfl
@[simp] theorem drawn_serviceStack (s : State) : (drawn s).serviceStack = s.serviceStack := rfl
@[simp] theorem drawn_trunkA (s : State) : (drawn s).trunkA = s.trunkA := rfl
@[simp] theorem drawn_trunkB (s : State) : (drawn s).trunkB = s.trunkB := rfl
@[simp] theorem drawn_completions (s : State) : (drawn s).completions = s.completions := rfl
@[simp] theorem drawn_changeFlags (s : State) : (drawn s).changeFlags = s.changeFlags := rfl
@[simp] theorem drawn_seenMarks (s : State) : (drawn s).seenMarks = s.seenMarks := rfl
@[simp] theorem drawn_enableMask (s : State) : (drawn s).enableMask = s.enableMask := rfl
@[simp] theorem drawn_interruptLine (s : State) : (drawn s).interruptLine = s.interruptLine := rfl
@[simp] theorem drawn_buffer (s : State) : (drawn s).buffer = s.buffer := rfl
@[simp] theorem drawn_busRead (s : State) : (drawn s).busRead = s.busRead := rfl
@[simp] theorem drawn_station (s : State) (q : RecIdx) : (drawn s).station q = s.station q := rfl
@[simp] theorem drawn_slot (s : State) (m : SlotIdx) : (drawn s).slot m = s.slot m := rfl
@[simp] theorem drawn_trunk (s : State) (u : TrunkId) : (drawn s).trunk u = s.trunk u := rfl
@[simp] theorem drawn_params (s : State) : (drawn s).params = s.params := rfl
@[simp] theorem drawn_indexOf (s : State) (a : Byte) : (drawn s).indexOf a = s.indexOf a := rfl
@[simp] theorem drawn_isOnline (s : State) (u : TrunkId) : (drawn s).isOnline u = s.isOnline u := rfl
@[simp] theorem drawn_flightOwner (s : State) (u : TrunkId) : (drawn s).flightOwner u = s.flightOwner u := rfl

@[simp] theorem causeWord_settle (s : State) : causeWord (settle s) = causeWord s := rfl

@[simp] theorem lineLevel_settle (s : State) : lineLevel (settle s) = lineLevel s := rfl

/-- The line after an event is what the causes and the mask make it (R195). -/
@[simp] theorem settle_interruptLine (s : State) : (settle s).interruptLine = lineLevel s := rfl

end Sys2Proof.Machine
end

