-- ==== Sys2Proof/Laws/Frames.lean ====
section
/-! SUPPORT. What each shared operation leaves alone: one lemma per operation, whose parts say which fields of the
state it does not touch. -/

namespace Sys2Proof.Machine

@[simp] theorem changeStation_frame (s : State) (r : RecIdx) (f : Station → Station) :
    (changeStation s r f).pending = s.pending ∧ (changeStation s r f).port = s.port ∧
    (changeStation s r f).index = s.index ∧ (changeStation s r f).slots = s.slots ∧
    (changeStation s r f).groupQueue = s.groupQueue ∧ (changeStation s r f).serviceLists = s.serviceLists ∧
    (changeStation s r f).serviceStack = s.serviceStack ∧ (changeStation s r f).trunkA = s.trunkA ∧
    (changeStation s r f).trunkB = s.trunkB ∧ (changeStation s r f).completions = s.completions ∧
    (changeStation s r f).enableMask = s.enableMask ∧ (changeStation s r f).interruptLine = s.interruptLine ∧
    (changeStation s r f).buffer = s.buffer ∧ (changeStation s r f).busRead = s.busRead ∧
    (changeStation s r f).freeCount = s.freeCount ∧ (∀ n₁, (changeStation s r f).slot n₁ = s.slot n₁) ∧
    (∀ t₁, (changeStation s r f).trunk t₁ = s.trunk t₁) ∧ (changeStation s r f).params = s.params ∧
    (∀ b₁, (changeStation s r f).indexOf b₁ = s.indexOf b₁) := by
  unfold changeStation; try dsimp only
  (repeat' split) <;> simp

@[simp] theorem vacate_frame (s : State) (r : RecIdx) :
    (vacate s r).pending = s.pending ∧ (vacate s r).port = s.port ∧ (vacate s r).slots = s.slots ∧
    (vacate s r).groupQueue = s.groupQueue ∧ (vacate s r).serviceLists = s.serviceLists ∧
    (vacate s r).serviceStack = s.serviceStack ∧ (vacate s r).trunkA = s.trunkA ∧
    (vacate s r).trunkB = s.trunkB ∧ (vacate s r).completions = s.completions ∧
    (vacate s r).enableMask = s.enableMask ∧ (vacate s r).interruptLine = s.interruptLine ∧
    (vacate s r).buffer = s.buffer ∧ (vacate s r).busRead = s.busRead ∧ (vacate s r).freeCount = s.freeCount ∧
    (∀ n₁, (vacate s r).slot n₁ = s.slot n₁) ∧ (∀ t₁, (vacate s r).trunk t₁ = s.trunk t₁) ∧
    (vacate s r).params = s.params := by
  simp [vacate]

@[simp] theorem restartPoll_frame (s : State) (r : RecIdx) :
    (restartPoll s r).pending = s.pending ∧ (restartPoll s r).port = s.port ∧
    (restartPoll s r).index = s.index ∧ (restartPoll s r).slots = s.slots ∧
    (restartPoll s r).groupQueue = s.groupQueue ∧ (restartPoll s r).serviceLists = s.serviceLists ∧
    (restartPoll s r).serviceStack = s.serviceStack ∧ (restartPoll s r).trunkA = s.trunkA ∧
    (restartPoll s r).trunkB = s.trunkB ∧ (restartPoll s r).completions = s.completions ∧
    (restartPoll s r).changeFlags = s.changeFlags ∧ (restartPoll s r).seenMarks = s.seenMarks ∧
    (restartPoll s r).enableMask = s.enableMask ∧ (restartPoll s r).interruptLine = s.interruptLine ∧
    (restartPoll s r).buffer = s.buffer ∧ (restartPoll s r).busRead = s.busRead ∧
    (restartPoll s r).freeCount = s.freeCount ∧ (∀ n₁, (restartPoll s r).slot n₁ = s.slot n₁) ∧
    (∀ t₁, (restartPoll s r).trunk t₁ = s.trunk t₁) ∧ (restartPoll s r).params = s.params ∧
    (∀ b₁, (restartPoll s r).indexOf b₁ = s.indexOf b₁) := by
  unfold restartPoll; try dsimp only
  (repeat' split) <;> simp

@[simp] theorem leavePollDue_frame (s : State) (r : RecIdx) :
    (leavePollDue s r).pending = s.pending ∧ (leavePollDue s r).port = s.port ∧
    (leavePollDue s r).index = s.index ∧ (leavePollDue s r).slots = s.slots ∧
    (leavePollDue s r).groupQueue = s.groupQueue ∧ (leavePollDue s r).serviceLists = s.serviceLists ∧
    (leavePollDue s r).serviceStack = s.serviceStack ∧ (leavePollDue s r).completions = s.completions ∧
    (leavePollDue s r).changeFlags = s.changeFlags ∧ (leavePollDue s r).seenMarks = s.seenMarks ∧
    (leavePollDue s r).enableMask = s.enableMask ∧ (leavePollDue s r).interruptLine = s.interruptLine ∧
    (leavePollDue s r).buffer = s.buffer ∧ (leavePollDue s r).busRead = s.busRead ∧
    (leavePollDue s r).freeCount = s.freeCount ∧ (∀ n₁, (leavePollDue s r).slot n₁ = s.slot n₁) ∧
    (leavePollDue s r).params = s.params ∧ (∀ b₁, (leavePollDue s r).indexOf b₁ = s.indexOf b₁) ∧
    (∀ r₁, (leavePollDue s r).station r₁ = s.station r₁) := by
  simp [leavePollDue]

@[simp] theorem leaveResync_frame (s : State) (r : RecIdx) :
    (leaveResync s r).pending = s.pending ∧ (leaveResync s r).port = s.port ∧
    (leaveResync s r).index = s.index ∧ (leaveResync s r).slots = s.slots ∧
    (leaveResync s r).groupQueue = s.groupQueue ∧ (leaveResync s r).serviceLists = s.serviceLists ∧
    (leaveResync s r).serviceStack = s.serviceStack ∧ (leaveResync s r).completions = s.completions ∧
    (leaveResync s r).changeFlags = s.changeFlags ∧ (leaveResync s r).seenMarks = s.seenMarks ∧
    (leaveResync s r).enableMask = s.enableMask ∧ (leaveResync s r).interruptLine = s.interruptLine ∧
    (leaveResync s r).buffer = s.buffer ∧ (leaveResync s r).busRead = s.busRead ∧
    (leaveResync s r).freeCount = s.freeCount ∧ (∀ n₁, (leaveResync s r).slot n₁ = s.slot n₁) ∧
    (leaveResync s r).params = s.params ∧ (∀ b₁, (leaveResync s r).indexOf b₁ = s.indexOf b₁) ∧
    (∀ r₁, (leaveResync s r).station r₁ = s.station r₁) := by
  simp [leaveResync]

@[simp] theorem joinPollDue_frame (s : State) (t : TrunkId) (r : RecIdx) :
    (joinPollDue s t r).pending = s.pending ∧ (joinPollDue s t r).port = s.port ∧
    (joinPollDue s t r).index = s.index ∧ (joinPollDue s t r).slots = s.slots ∧
    (joinPollDue s t r).groupQueue = s.groupQueue ∧ (joinPollDue s t r).serviceLists = s.serviceLists ∧
    (joinPollDue s t r).serviceStack = s.serviceStack ∧ (joinPollDue s t r).completions = s.completions ∧
    (joinPollDue s t r).changeFlags = s.changeFlags ∧ (joinPollDue s t r).seenMarks = s.seenMarks ∧
    (joinPollDue s t r).enableMask = s.enableMask ∧ (joinPollDue s t r).interruptLine = s.interruptLine ∧
    (joinPollDue s t r).buffer = s.buffer ∧ (joinPollDue s t r).busRead = s.busRead ∧
    (joinPollDue s t r).freeCount = s.freeCount ∧ (∀ n₁, (joinPollDue s t r).slot n₁ = s.slot n₁) ∧
    (joinPollDue s t r).params = s.params ∧ (∀ b₁, (joinPollDue s t r).indexOf b₁ = s.indexOf b₁) ∧
    (∀ r₁, (joinPollDue s t r).station r₁ = s.station r₁) := by
  simp [joinPollDue]

@[simp] theorem joinResync_frame (s : State) (r : RecIdx) :
    (joinResync s r).pending = s.pending ∧ (joinResync s r).port = s.port ∧ (joinResync s r).index = s.index ∧
    (joinResync s r).slots = s.slots ∧ (joinResync s r).groupQueue = s.groupQueue ∧
    (joinResync s r).serviceLists = s.serviceLists ∧ (joinResync s r).serviceStack = s.serviceStack ∧
    (joinResync s r).completions = s.completions ∧ (joinResync s r).changeFlags = s.changeFlags ∧
    (joinResync s r).seenMarks = s.seenMarks ∧ (joinResync s r).enableMask = s.enableMask ∧
    (joinResync s r).interruptLine = s.interruptLine ∧ (joinResync s r).buffer = s.buffer ∧
    (joinResync s r).busRead = s.busRead ∧ (joinResync s r).freeCount = s.freeCount ∧
    (∀ n₁, (joinResync s r).slot n₁ = s.slot n₁) ∧ (joinResync s r).params = s.params ∧
    (∀ b₁, (joinResync s r).indexOf b₁ = s.indexOf b₁) ∧ (∀ r₁, (joinResync s r).station r₁ = s.station r₁) := by
  simp [joinResync]

@[simp] theorem requestResync_frame (s : State) (r : RecIdx) :
    (requestResync s r).pending = s.pending ∧ (requestResync s r).port = s.port ∧
    (requestResync s r).index = s.index ∧ (requestResync s r).slots = s.slots ∧
    (requestResync s r).groupQueue = s.groupQueue ∧ (requestResync s r).serviceLists = s.serviceLists ∧
    (requestResync s r).serviceStack = s.serviceStack ∧ (requestResync s r).completions = s.completions ∧
    (requestResync s r).changeFlags = s.changeFlags ∧ (requestResync s r).seenMarks = s.seenMarks ∧
    (requestResync s r).enableMask = s.enableMask ∧ (requestResync s r).interruptLine = s.interruptLine ∧
    (requestResync s r).buffer = s.buffer ∧ (requestResync s r).busRead = s.busRead ∧
    (requestResync s r).freeCount = s.freeCount ∧ (∀ n₁, (requestResync s r).slot n₁ = s.slot n₁) ∧
    (requestResync s r).params = s.params ∧ (∀ b₁, (requestResync s r).indexOf b₁ = s.indexOf b₁) := by
  simp [requestResync]

@[simp] theorem completeSlot_frame (s : State) (n : SlotIdx) (c : CompletionCode) :
    (completeSlot s n c).pending = s.pending ∧ (completeSlot s n c).port = s.port ∧
    (completeSlot s n c).index = s.index ∧ (completeSlot s n c).serviceLists = s.serviceLists ∧
    (completeSlot s n c).serviceStack = s.serviceStack ∧ (completeSlot s n c).trunkA = s.trunkA ∧
    (completeSlot s n c).trunkB = s.trunkB ∧ (completeSlot s n c).changeFlags = s.changeFlags ∧
    (completeSlot s n c).seenMarks = s.seenMarks ∧ (completeSlot s n c).enableMask = s.enableMask ∧
    (completeSlot s n c).interruptLine = s.interruptLine ∧ (completeSlot s n c).buffer = s.buffer ∧
    (completeSlot s n c).busRead = s.busRead ∧ (completeSlot s n c).freeCount = s.freeCount ∧
    (∀ t₁, (completeSlot s n c).trunk t₁ = s.trunk t₁) ∧ (completeSlot s n c).params = s.params ∧
    (∀ b₁, (completeSlot s n c).indexOf b₁ = s.indexOf b₁) := by
  unfold completeSlot; try dsimp only
  (repeat' split) <;> simp [State.slot, State.trunk, State.params, State.indexOf]

@[simp] theorem completeAll_frame (s : State) (l : List SlotIdx) (code : SlotIdx → CompletionCode) :
    (completeAll s l code).pending = s.pending ∧ (completeAll s l code).port = s.port ∧
    (completeAll s l code).index = s.index ∧ (completeAll s l code).serviceLists = s.serviceLists ∧
    (completeAll s l code).serviceStack = s.serviceStack ∧ (completeAll s l code).trunkA = s.trunkA ∧
    (completeAll s l code).trunkB = s.trunkB ∧ (completeAll s l code).changeFlags = s.changeFlags ∧
    (completeAll s l code).seenMarks = s.seenMarks ∧ (completeAll s l code).enableMask = s.enableMask ∧
    (completeAll s l code).interruptLine = s.interruptLine ∧ (completeAll s l code).buffer = s.buffer ∧
    (completeAll s l code).busRead = s.busRead ∧ (completeAll s l code).freeCount = s.freeCount ∧
    (∀ t₁, (completeAll s l code).trunk t₁ = s.trunk t₁) ∧ (completeAll s l code).params = s.params ∧
    (∀ b₁, (completeAll s l code).indexOf b₁ = s.indexOf b₁) := by
  induction l generalizing s with
  | nil => simp [completeAll]
  | cons n l ih => simp [completeAll, ih]

@[simp] theorem leavePending_frame (s : State) (r : RecIdx) :
    (leavePending s r).pending = s.pending ∧ (leavePending s r).port = s.port ∧
    (leavePending s r).index = s.index ∧ (leavePending s r).slots = s.slots ∧
    (leavePending s r).groupQueue = s.groupQueue ∧ (leavePending s r).serviceStack = s.serviceStack ∧
    (leavePending s r).trunkA = s.trunkA ∧ (leavePending s r).trunkB = s.trunkB ∧
    (leavePending s r).completions = s.completions ∧ (leavePending s r).changeFlags = s.changeFlags ∧
    (leavePending s r).seenMarks = s.seenMarks ∧ (leavePending s r).enableMask = s.enableMask ∧
    (leavePending s r).interruptLine = s.interruptLine ∧ (leavePending s r).buffer = s.buffer ∧
    (leavePending s r).busRead = s.busRead ∧ (leavePending s r).freeCount = s.freeCount ∧
    (∀ n₁, (leavePending s r).slot n₁ = s.slot n₁) ∧ (∀ t₁, (leavePending s r).trunk t₁ = s.trunk t₁) ∧
    (leavePending s r).params = s.params ∧ (∀ b₁, (leavePending s r).indexOf b₁ = s.indexOf b₁) ∧
    (∀ r₁, (leavePending s r).station r₁ = s.station r₁) := by
  simp [leavePending, State.slot, State.trunk, State.params, State.indexOf, State.station]

@[simp] theorem joinPending_frame (s : State) (p : Fin 8) (r : RecIdx) :
    (joinPending s p r).pending = s.pending ∧ (joinPending s p r).port = s.port ∧
    (joinPending s p r).index = s.index ∧ (joinPending s p r).slots = s.slots ∧
    (joinPending s p r).groupQueue = s.groupQueue ∧ (joinPending s p r).serviceStack = s.serviceStack ∧
    (joinPending s p r).trunkA = s.trunkA ∧ (joinPending s p r).trunkB = s.trunkB ∧
    (joinPending s p r).completions = s.completions ∧ (joinPending s p r).changeFlags = s.changeFlags ∧
    (joinPending s p r).seenMarks = s.seenMarks ∧ (joinPending s p r).enableMask = s.enableMask ∧
    (joinPending s p r).interruptLine = s.interruptLine ∧ (joinPending s p r).buffer = s.buffer ∧
    (joinPending s p r).busRead = s.busRead ∧ (joinPending s p r).freeCount = s.freeCount ∧
    (∀ n₁, (joinPending s p r).slot n₁ = s.slot n₁) ∧ (∀ t₁, (joinPending s p r).trunk t₁ = s.trunk t₁) ∧
    (joinPending s p r).params = s.params ∧ (∀ b₁, (joinPending s p r).indexOf b₁ = s.indexOf b₁) ∧
    (∀ r₁, (joinPending s p r).station r₁ = s.station r₁) := by
  simp [joinPending, State.slot, State.trunk, State.params, State.indexOf, State.station]

@[simp] theorem dropRequest_frame (s : State) (r : RecIdx) :
    (dropRequest s r).pending = s.pending ∧ (dropRequest s r).port = s.port ∧
    (dropRequest s r).index = s.index ∧ (dropRequest s r).slots = s.slots ∧
    (dropRequest s r).groupQueue = s.groupQueue ∧ (dropRequest s r).serviceStack = s.serviceStack ∧
    (dropRequest s r).trunkA = s.trunkA ∧ (dropRequest s r).trunkB = s.trunkB ∧
    (dropRequest s r).completions = s.completions ∧ (dropRequest s r).changeFlags = s.changeFlags ∧
    (dropRequest s r).seenMarks = s.seenMarks ∧ (dropRequest s r).enableMask = s.enableMask ∧
    (dropRequest s r).interruptLine = s.interruptLine ∧ (dropRequest s r).buffer = s.buffer ∧
    (dropRequest s r).busRead = s.busRead ∧ (dropRequest s r).freeCount = s.freeCount ∧
    (∀ n₁, (dropRequest s r).slot n₁ = s.slot n₁) ∧ (∀ t₁, (dropRequest s r).trunk t₁ = s.trunk t₁) ∧
    (dropRequest s r).params = s.params ∧ (∀ b₁, (dropRequest s r).indexOf b₁ = s.indexOf b₁) := by
  simp [dropRequest]

@[simp] theorem offerAttn_frame (s : State) (r : RecIdx) (attn : Bool) :
    (offerAttn s r attn).pending = s.pending ∧ (offerAttn s r attn).port = s.port ∧
    (offerAttn s r attn).index = s.index ∧ (offerAttn s r attn).slots = s.slots ∧
    (offerAttn s r attn).groupQueue = s.groupQueue ∧ (offerAttn s r attn).serviceStack = s.serviceStack ∧
    (offerAttn s r attn).trunkA = s.trunkA ∧ (offerAttn s r attn).trunkB = s.trunkB ∧
    (offerAttn s r attn).completions = s.completions ∧ (offerAttn s r attn).changeFlags = s.changeFlags ∧
    (offerAttn s r attn).seenMarks = s.seenMarks ∧ (offerAttn s r attn).enableMask = s.enableMask ∧
    (offerAttn s r attn).interruptLine = s.interruptLine ∧ (offerAttn s r attn).buffer = s.buffer ∧
    (offerAttn s r attn).busRead = s.busRead ∧ (offerAttn s r attn).freeCount = s.freeCount ∧
    (∀ n₁, (offerAttn s r attn).slot n₁ = s.slot n₁) ∧ (∀ t₁, (offerAttn s r attn).trunk t₁ = s.trunk t₁) ∧
    (offerAttn s r attn).params = s.params ∧ (∀ b₁, (offerAttn s r attn).indexOf b₁ = s.indexOf b₁) := by
  unfold offerAttn; try dsimp only
  (repeat' split) <;> simp

@[simp] theorem enterLost_frame (s : State) (r : RecIdx) (fault : LastFault) (own : Option SlotIdx) :
    (enterLost s r fault own).pending = s.pending ∧ (enterLost s r fault own).port = s.port ∧
    (enterLost s r fault own).index = s.index ∧ (enterLost s r fault own).serviceStack = s.serviceStack ∧
    (enterLost s r fault own).enableMask = s.enableMask ∧
    (enterLost s r fault own).interruptLine = s.interruptLine ∧ (enterLost s r fault own).buffer = s.buffer ∧
    (enterLost s r fault own).busRead = s.busRead ∧ (enterLost s r fault own).freeCount = s.freeCount ∧
    (enterLost s r fault own).params = s.params ∧ (∀ b₁, (enterLost s r fault own).indexOf b₁ = s.indexOf b₁) := by
  simp [enterLost]

@[simp] theorem leaveInDoubt_frame (s : State) (r : RecIdx) :
    (leaveInDoubt s r).pending = s.pending ∧ (leaveInDoubt s r).port = s.port ∧
    (leaveInDoubt s r).index = s.index ∧ (leaveInDoubt s r).slots = s.slots ∧
    (leaveInDoubt s r).groupQueue = s.groupQueue ∧ (leaveInDoubt s r).serviceLists = s.serviceLists ∧
    (leaveInDoubt s r).serviceStack = s.serviceStack ∧ (leaveInDoubt s r).completions = s.completions ∧
    (leaveInDoubt s r).enableMask = s.enableMask ∧ (leaveInDoubt s r).interruptLine = s.interruptLine ∧
    (leaveInDoubt s r).buffer = s.buffer ∧ (leaveInDoubt s r).busRead = s.busRead ∧
    (leaveInDoubt s r).freeCount = s.freeCount ∧ (∀ n₁, (leaveInDoubt s r).slot n₁ = s.slot n₁) ∧
    (leaveInDoubt s r).params = s.params ∧ (∀ b₁, (leaveInDoubt s r).indexOf b₁ = s.indexOf b₁) := by
  unfold leaveInDoubt; try dsimp only
  (repeat' split) <;> simp

@[simp] theorem chooseProbe_frame (s : State) (r : RecIdx) :
    (chooseProbe s r).pending = s.pending ∧ (chooseProbe s r).port = s.port ∧
    (chooseProbe s r).index = s.index ∧ (chooseProbe s r).slots = s.slots ∧
    (chooseProbe s r).groupQueue = s.groupQueue ∧ (chooseProbe s r).serviceLists = s.serviceLists ∧
    (chooseProbe s r).serviceStack = s.serviceStack ∧ (chooseProbe s r).completions = s.completions ∧
    (chooseProbe s r).changeFlags = s.changeFlags ∧ (chooseProbe s r).seenMarks = s.seenMarks ∧
    (chooseProbe s r).enableMask = s.enableMask ∧ (chooseProbe s r).interruptLine = s.interruptLine ∧
    (chooseProbe s r).buffer = s.buffer ∧ (chooseProbe s r).busRead = s.busRead ∧
    (chooseProbe s r).freeCount = s.freeCount ∧ (∀ n₁, (chooseProbe s r).slot n₁ = s.slot n₁) ∧
    (chooseProbe s r).params = s.params ∧ (∀ b₁, (chooseProbe s r).indexOf b₁ = s.indexOf b₁) := by
  unfold chooseProbe; try dsimp only
  (repeat' split) <;> simp

@[simp] theorem dispatchFrom_frame (s : State) (l : List SlotIdx) :
    (dispatchFrom l s).pending = s.pending ∧ (dispatchFrom l s).port = s.port ∧
    (dispatchFrom l s).index = s.index ∧ (dispatchFrom l s).serviceLists = s.serviceLists ∧
    (dispatchFrom l s).serviceStack = s.serviceStack ∧ (dispatchFrom l s).trunkA = s.trunkA ∧
    (dispatchFrom l s).trunkB = s.trunkB ∧ (dispatchFrom l s).changeFlags = s.changeFlags ∧
    (dispatchFrom l s).seenMarks = s.seenMarks ∧ (dispatchFrom l s).enableMask = s.enableMask ∧
    (dispatchFrom l s).interruptLine = s.interruptLine ∧ (dispatchFrom l s).buffer = s.buffer ∧
    (dispatchFrom l s).busRead = s.busRead ∧ (dispatchFrom l s).freeCount = s.freeCount ∧
    (∀ t₁, (dispatchFrom l s).trunk t₁ = s.trunk t₁) ∧ (dispatchFrom l s).params = s.params ∧
    (∀ b₁, (dispatchFrom l s).indexOf b₁ = s.indexOf b₁) := by
  induction l generalizing s with
  | nil => simp [dispatchFrom]
  | cons n l ih => unfold dispatchFrom; dsimp only; (repeat' split) <;> simp [ih]

@[simp] theorem dispatchGroups_frame (s : State) :
    (dispatchGroups s).pending = s.pending ∧ (dispatchGroups s).port = s.port ∧
    (dispatchGroups s).index = s.index ∧ (dispatchGroups s).serviceLists = s.serviceLists ∧
    (dispatchGroups s).serviceStack = s.serviceStack ∧ (dispatchGroups s).trunkA = s.trunkA ∧
    (dispatchGroups s).trunkB = s.trunkB ∧ (dispatchGroups s).changeFlags = s.changeFlags ∧
    (dispatchGroups s).seenMarks = s.seenMarks ∧ (dispatchGroups s).enableMask = s.enableMask ∧
    (dispatchGroups s).interruptLine = s.interruptLine ∧ (dispatchGroups s).buffer = s.buffer ∧
    (dispatchGroups s).busRead = s.busRead ∧ (dispatchGroups s).freeCount = s.freeCount ∧
    (∀ t₁, (dispatchGroups s).trunk t₁ = s.trunk t₁) ∧ (dispatchGroups s).params = s.params ∧
    (∀ b₁, (dispatchGroups s).indexOf b₁ = s.indexOf b₁) := by
  simp [dispatchGroups]

@[simp] theorem settleGroup_frame (s : State) (n : SlotIdx) :
    (settleGroup s n).pending = s.pending ∧ (settleGroup s n).port = s.port ∧
    (settleGroup s n).index = s.index ∧ (settleGroup s n).serviceLists = s.serviceLists ∧
    (settleGroup s n).serviceStack = s.serviceStack ∧ (settleGroup s n).trunkA = s.trunkA ∧
    (settleGroup s n).trunkB = s.trunkB ∧ (settleGroup s n).changeFlags = s.changeFlags ∧
    (settleGroup s n).seenMarks = s.seenMarks ∧ (settleGroup s n).enableMask = s.enableMask ∧
    (settleGroup s n).interruptLine = s.interruptLine ∧ (settleGroup s n).buffer = s.buffer ∧
    (settleGroup s n).busRead = s.busRead ∧ (settleGroup s n).freeCount = s.freeCount ∧
    (∀ t₁, (settleGroup s n).trunk t₁ = s.trunk t₁) ∧ (settleGroup s n).params = s.params ∧
    (∀ b₁, (settleGroup s n).indexOf b₁ = s.indexOf b₁) := by
  unfold settleGroup; try dsimp only
  (repeat' split) <;> simp

@[simp] theorem groupCopySent_frame (s : State) (n : SlotIdx) (t : TrunkId) :
    (groupCopySent s n t).pending = s.pending ∧ (groupCopySent s n t).port = s.port ∧
    (groupCopySent s n t).index = s.index ∧ (groupCopySent s n t).serviceLists = s.serviceLists ∧
    (groupCopySent s n t).serviceStack = s.serviceStack ∧ (groupCopySent s n t).trunkA = s.trunkA ∧
    (groupCopySent s n t).trunkB = s.trunkB ∧ (groupCopySent s n t).changeFlags = s.changeFlags ∧
    (groupCopySent s n t).seenMarks = s.seenMarks ∧ (groupCopySent s n t).enableMask = s.enableMask ∧
    (groupCopySent s n t).interruptLine = s.interruptLine ∧ (groupCopySent s n t).buffer = s.buffer ∧
    (groupCopySent s n t).busRead = s.busRead ∧ (groupCopySent s n t).freeCount = s.freeCount ∧
    (∀ t₁, (groupCopySent s n t).trunk t₁ = s.trunk t₁) ∧ (groupCopySent s n t).params = s.params ∧
    (∀ b₁, (groupCopySent s n t).indexOf b₁ = s.indexOf b₁) := by
  simp [groupCopySent]

@[simp] theorem dropCopies_frame (s : State) (t : TrunkId) :
    (dropCopies s t).pending = s.pending ∧ (dropCopies s t).port = s.port ∧ (dropCopies s t).index = s.index ∧
    (dropCopies s t).serviceLists = s.serviceLists ∧ (dropCopies s t).serviceStack = s.serviceStack ∧
    (dropCopies s t).trunkA = s.trunkA ∧ (dropCopies s t).trunkB = s.trunkB ∧
    (dropCopies s t).changeFlags = s.changeFlags ∧ (dropCopies s t).seenMarks = s.seenMarks ∧
    (dropCopies s t).enableMask = s.enableMask ∧ (dropCopies s t).interruptLine = s.interruptLine ∧
    (dropCopies s t).buffer = s.buffer ∧ (dropCopies s t).busRead = s.busRead ∧
    (dropCopies s t).freeCount = s.freeCount ∧ (∀ t₁, (dropCopies s t).trunk t₁ = s.trunk t₁) ∧
    (dropCopies s t).params = s.params ∧ (∀ b₁, (dropCopies s t).indexOf b₁ = s.indexOf b₁) := by
  unfold dropCopies; try dsimp only
  (repeat' split) <;> simp

@[simp] theorem restCycle_frame (s : State) (n : SlotIdx) (x : Slot) :
    (restCycle s n x).pending = s.pending ∧ (restCycle s n x).port = s.port ∧
    (restCycle s n x).index = s.index ∧ (restCycle s n x).groupQueue = s.groupQueue ∧
    (restCycle s n x).serviceLists = s.serviceLists ∧ (restCycle s n x).serviceStack = s.serviceStack ∧
    (restCycle s n x).trunkA = s.trunkA ∧ (restCycle s n x).trunkB = s.trunkB ∧
    (restCycle s n x).completions = s.completions ∧ (restCycle s n x).changeFlags = s.changeFlags ∧
    (restCycle s n x).seenMarks = s.seenMarks ∧ (restCycle s n x).enableMask = s.enableMask ∧
    (restCycle s n x).interruptLine = s.interruptLine ∧ (restCycle s n x).buffer = s.buffer ∧
    (restCycle s n x).busRead = s.busRead ∧ (restCycle s n x).freeCount = s.freeCount ∧
    (∀ t₁, (restCycle s n x).trunk t₁ = s.trunk t₁) ∧ (restCycle s n x).params = s.params ∧
    (∀ b₁, (restCycle s n x).indexOf b₁ = s.indexOf b₁) := by
  simp [restCycle]

@[simp] theorem finishExchange_frame (s : State) (n : SlotIdx) (c : CompletionCode) :
    (finishExchange s n c).pending = s.pending ∧ (finishExchange s n c).port = s.port ∧
    (finishExchange s n c).index = s.index ∧ (finishExchange s n c).serviceLists = s.serviceLists ∧
    (finishExchange s n c).serviceStack = s.serviceStack ∧ (finishExchange s n c).trunkA = s.trunkA ∧
    (finishExchange s n c).trunkB = s.trunkB ∧ (finishExchange s n c).changeFlags = s.changeFlags ∧
    (finishExchange s n c).seenMarks = s.seenMarks ∧ (finishExchange s n c).enableMask = s.enableMask ∧
    (finishExchange s n c).interruptLine = s.interruptLine ∧ (finishExchange s n c).buffer = s.buffer ∧
    (finishExchange s n c).busRead = s.busRead ∧ (finishExchange s n c).freeCount = s.freeCount ∧
    (∀ t₁, (finishExchange s n c).trunk t₁ = s.trunk t₁) ∧ (finishExchange s n c).params = s.params ∧
    (∀ b₁, (finishExchange s n c).indexOf b₁ = s.indexOf b₁) := by
  unfold finishExchange; try dsimp only
  (repeat' split) <;> simp

@[simp] theorem closeAtAck_frame (s : State) (n : SlotIdx) (c : Option CompletionCode) (d : CompletionCode) :
    (closeAtAck s n c d).pending = s.pending ∧ (closeAtAck s n c d).port = s.port ∧
    (closeAtAck s n c d).index = s.index ∧ (closeAtAck s n c d).serviceLists = s.serviceLists ∧
    (closeAtAck s n c d).serviceStack = s.serviceStack ∧ (closeAtAck s n c d).trunkA = s.trunkA ∧
    (closeAtAck s n c d).trunkB = s.trunkB ∧ (closeAtAck s n c d).changeFlags = s.changeFlags ∧
    (closeAtAck s n c d).seenMarks = s.seenMarks ∧ (closeAtAck s n c d).enableMask = s.enableMask ∧
    (closeAtAck s n c d).interruptLine = s.interruptLine ∧ (closeAtAck s n c d).buffer = s.buffer ∧
    (closeAtAck s n c d).busRead = s.busRead ∧ (closeAtAck s n c d).freeCount = s.freeCount ∧
    (∀ t₁, (closeAtAck s n c d).trunk t₁ = s.trunk t₁) ∧ (closeAtAck s n c d).params = s.params ∧
    (∀ b₁, (closeAtAck s n c d).indexOf b₁ = s.indexOf b₁) := by
  unfold closeAtAck; try dsimp only
  (repeat' split) <;> simp

@[simp] theorem applyGood_frame (s : State) (r : RecIdx) (status : Byte) :
    (applyGood s r status).pending = s.pending ∧ (applyGood s r status).port = s.port ∧
    (applyGood s r status).index = s.index ∧ (applyGood s r status).slots = s.slots ∧
    (applyGood s r status).groupQueue = s.groupQueue ∧ (applyGood s r status).serviceLists = s.serviceLists ∧
    (applyGood s r status).serviceStack = s.serviceStack ∧ (applyGood s r status).trunkA = s.trunkA ∧
    (applyGood s r status).trunkB = s.trunkB ∧ (applyGood s r status).completions = s.completions ∧
    (applyGood s r status).enableMask = s.enableMask ∧ (applyGood s r status).interruptLine = s.interruptLine ∧
    (applyGood s r status).buffer = s.buffer ∧ (applyGood s r status).busRead = s.busRead ∧
    (applyGood s r status).freeCount = s.freeCount ∧ (∀ n₁, (applyGood s r status).slot n₁ = s.slot n₁) ∧
    (∀ t₁, (applyGood s r status).trunk t₁ = s.trunk t₁) ∧ (applyGood s r status).params = s.params ∧
    (∀ b₁, (applyGood s r status).indexOf b₁ = s.indexOf b₁) := by
  simp [applyGood]

@[simp] theorem applyMiss_frame (s : State) (r : RecIdx) (m : Miss) (own : Option SlotIdx) :
    (applyMiss s r m own).pending = s.pending ∧ (applyMiss s r m own).port = s.port ∧
    (applyMiss s r m own).index = s.index ∧ (applyMiss s r m own).serviceStack = s.serviceStack ∧
    (applyMiss s r m own).enableMask = s.enableMask ∧ (applyMiss s r m own).interruptLine = s.interruptLine ∧
    (applyMiss s r m own).buffer = s.buffer ∧ (applyMiss s r m own).busRead = s.busRead ∧
    (applyMiss s r m own).freeCount = s.freeCount ∧ (applyMiss s r m own).params = s.params ∧
    (∀ b₁, (applyMiss s r m own).indexOf b₁ = s.indexOf b₁) := by
  unfold applyMiss; try dsimp only
  (repeat' split) <;> simp

@[simp] theorem storeData_frame (s : State) (x : Slot) (data : List Byte) :
    (storeData s x data).pending = s.pending ∧ (storeData s x data).port = s.port ∧
    (storeData s x data).index = s.index ∧ (storeData s x data).slots = s.slots ∧
    (storeData s x data).groupQueue = s.groupQueue ∧ (storeData s x data).serviceLists = s.serviceLists ∧
    (storeData s x data).serviceStack = s.serviceStack ∧ (storeData s x data).trunkA = s.trunkA ∧
    (storeData s x data).trunkB = s.trunkB ∧ (storeData s x data).completions = s.completions ∧
    (storeData s x data).changeFlags = s.changeFlags ∧ (storeData s x data).seenMarks = s.seenMarks ∧
    (storeData s x data).enableMask = s.enableMask ∧ (storeData s x data).interruptLine = s.interruptLine ∧
    (storeData s x data).busRead = s.busRead ∧ (storeData s x data).freeCount = s.freeCount ∧
    (∀ n₁, (storeData s x data).slot n₁ = s.slot n₁) ∧ (∀ t₁, (storeData s x data).trunk t₁ = s.trunk t₁) ∧
    (storeData s x data).params = s.params ∧ (∀ b₁, (storeData s x data).indexOf b₁ = s.indexOf b₁) ∧
    (∀ r₁, (storeData s x data).station r₁ = s.station r₁) := by
  unfold storeData; split <;> simp [State.slot, State.trunk, State.params, State.indexOf, State.station]

@[simp] theorem takeAck_frame (s : State) (n : SlotIdx) (data : List Byte) :
    ((takeAck s n data).1).pending = s.pending ∧ ((takeAck s n data).1).port = s.port ∧
    ((takeAck s n data).1).index = s.index ∧ ((takeAck s n data).1).groupQueue = s.groupQueue ∧
    ((takeAck s n data).1).serviceLists = s.serviceLists ∧
    ((takeAck s n data).1).serviceStack = s.serviceStack ∧ ((takeAck s n data).1).trunkA = s.trunkA ∧
    ((takeAck s n data).1).trunkB = s.trunkB ∧ ((takeAck s n data).1).completions = s.completions ∧
    ((takeAck s n data).1).changeFlags = s.changeFlags ∧ ((takeAck s n data).1).seenMarks = s.seenMarks ∧
    ((takeAck s n data).1).enableMask = s.enableMask ∧ ((takeAck s n data).1).interruptLine = s.interruptLine ∧
    ((takeAck s n data).1).busRead = s.busRead ∧ ((takeAck s n data).1).freeCount = s.freeCount ∧
    (∀ t₁, ((takeAck s n data).1).trunk t₁ = s.trunk t₁) ∧ ((takeAck s n data).1).params = s.params ∧
    (∀ b₁, ((takeAck s n data).1).indexOf b₁ = s.indexOf b₁) ∧
    (∀ r₁, ((takeAck s n data).1).station r₁ = s.station r₁) := by
  simp [takeAck]

@[simp] theorem slotGood_frame (s : State) (n : SlotIdx) (code : ReplyCode) (data : List Byte) :
    (slotGood s n code data).pending = s.pending ∧ (slotGood s n code data).port = s.port ∧
    (slotGood s n code data).index = s.index ∧ (slotGood s n code data).serviceLists = s.serviceLists ∧
    (slotGood s n code data).serviceStack = s.serviceStack ∧ (slotGood s n code data).trunkA = s.trunkA ∧
    (slotGood s n code data).trunkB = s.trunkB ∧ (slotGood s n code data).changeFlags = s.changeFlags ∧
    (slotGood s n code data).seenMarks = s.seenMarks ∧ (slotGood s n code data).enableMask = s.enableMask ∧
    (slotGood s n code data).interruptLine = s.interruptLine ∧ (slotGood s n code data).busRead = s.busRead ∧
    (slotGood s n code data).freeCount = s.freeCount ∧ (∀ t₁, (slotGood s n code data).trunk t₁ = s.trunk t₁) ∧
    (slotGood s n code data).params = s.params ∧ (∀ b₁, (slotGood s n code data).indexOf b₁ = s.indexOf b₁) := by
  unfold slotGood; try dsimp only
  (repeat' split) <;> simp

@[simp] theorem slotMiss_frame (s : State) (n : SlotIdx) (r : RecIdx) (m : Miss) :
    (slotMiss s n r m).pending = s.pending ∧ (slotMiss s n r m).port = s.port ∧
    (slotMiss s n r m).index = s.index ∧ (slotMiss s n r m).serviceLists = s.serviceLists ∧
    (slotMiss s n r m).serviceStack = s.serviceStack ∧ (slotMiss s n r m).enableMask = s.enableMask ∧
    (slotMiss s n r m).interruptLine = s.interruptLine ∧ (slotMiss s n r m).buffer = s.buffer ∧
    (slotMiss s n r m).busRead = s.busRead ∧ (slotMiss s n r m).freeCount = s.freeCount ∧
    (slotMiss s n r m).params = s.params ∧ (∀ b₁, (slotMiss s n r m).indexOf b₁ = s.indexOf b₁) := by
  unfold slotMiss; try dsimp only
  (repeat' split) <;> simp

@[simp] theorem retiringSlot_frame (s : State) (n : SlotIdx) (o : FrameOutcome) :
    (retiringSlot s n o).pending = s.pending ∧ (retiringSlot s n o).port = s.port ∧
    (retiringSlot s n o).index = s.index ∧ (retiringSlot s n o).serviceLists = s.serviceLists ∧
    (retiringSlot s n o).serviceStack = s.serviceStack ∧ (retiringSlot s n o).trunkA = s.trunkA ∧
    (retiringSlot s n o).trunkB = s.trunkB ∧ (retiringSlot s n o).changeFlags = s.changeFlags ∧
    (retiringSlot s n o).seenMarks = s.seenMarks ∧ (retiringSlot s n o).enableMask = s.enableMask ∧
    (retiringSlot s n o).interruptLine = s.interruptLine ∧ (retiringSlot s n o).busRead = s.busRead ∧
    (retiringSlot s n o).freeCount = s.freeCount ∧ (∀ t₁, (retiringSlot s n o).trunk t₁ = s.trunk t₁) ∧
    (retiringSlot s n o).params = s.params ∧ (∀ b₁, (retiringSlot s n o).indexOf b₁ = s.indexOf b₁) := by
  unfold retiringSlot; try dsimp only
  (repeat' split) <;> simp

@[simp] theorem exchangeEnd_frame (s : State) (n : SlotIdx) (r : RecIdx) (o : FrameOutcome) :
    (exchangeEnd s n r o).pending = s.pending ∧ (exchangeEnd s n r o).port = s.port ∧
    (exchangeEnd s n r o).serviceStack = s.serviceStack ∧ (exchangeEnd s n r o).enableMask = s.enableMask ∧
    (exchangeEnd s n r o).interruptLine = s.interruptLine ∧ (exchangeEnd s n r o).busRead = s.busRead ∧
    (exchangeEnd s n r o).freeCount = s.freeCount ∧ (exchangeEnd s n r o).params = s.params := by
  unfold exchangeEnd; try dsimp only
  (repeat' split) <;> simp

@[simp] theorem recoverByProbe_frame (s : State) (t : TrunkId) (r : RecIdx) (status : Byte) :
    (recoverByProbe s t r status).pending = s.pending ∧ (recoverByProbe s t r status).port = s.port ∧
    (recoverByProbe s t r status).index = s.index ∧ (recoverByProbe s t r status).slots = s.slots ∧
    (recoverByProbe s t r status).groupQueue = s.groupQueue ∧
    (recoverByProbe s t r status).serviceLists = s.serviceLists ∧
    (recoverByProbe s t r status).serviceStack = s.serviceStack ∧
    (recoverByProbe s t r status).completions = s.completions ∧
    (recoverByProbe s t r status).enableMask = s.enableMask ∧
    (recoverByProbe s t r status).interruptLine = s.interruptLine ∧
    (recoverByProbe s t r status).buffer = s.buffer ∧ (recoverByProbe s t r status).busRead = s.busRead ∧
    (recoverByProbe s t r status).freeCount = s.freeCount ∧
    (∀ n₁, (recoverByProbe s t r status).slot n₁ = s.slot n₁) ∧
    (recoverByProbe s t r status).params = s.params ∧
    (∀ b₁, (recoverByProbe s t r status).indexOf b₁ = s.indexOf b₁) := by
  simp [recoverByProbe]

@[simp] theorem pollEnd_frame (s : State) (t : TrunkId) (r : RecIdx) (o : FrameOutcome) :
    (pollEnd s t r o).pending = s.pending ∧ (pollEnd s t r o).port = s.port ∧
    (pollEnd s t r o).serviceStack = s.serviceStack ∧ (pollEnd s t r o).enableMask = s.enableMask ∧
    (pollEnd s t r o).interruptLine = s.interruptLine ∧ (pollEnd s t r o).buffer = s.buffer ∧
    (pollEnd s t r o).busRead = s.busRead ∧ (pollEnd s t r o).freeCount = s.freeCount ∧
    (pollEnd s t r o).params = s.params := by
  unfold pollEnd; try dsimp only
  (repeat' split) <;> simp

@[simp] theorem headAtResync_frame (s : State) (r : RecIdx) :
    (headAtResync s r).pending = s.pending ∧ (headAtResync s r).port = s.port ∧
    (headAtResync s r).index = s.index ∧ (headAtResync s r).serviceLists = s.serviceLists ∧
    (headAtResync s r).serviceStack = s.serviceStack ∧ (headAtResync s r).trunkA = s.trunkA ∧
    (headAtResync s r).trunkB = s.trunkB ∧ (headAtResync s r).changeFlags = s.changeFlags ∧
    (headAtResync s r).seenMarks = s.seenMarks ∧ (headAtResync s r).enableMask = s.enableMask ∧
    (headAtResync s r).interruptLine = s.interruptLine ∧ (headAtResync s r).buffer = s.buffer ∧
    (headAtResync s r).busRead = s.busRead ∧ (headAtResync s r).freeCount = s.freeCount ∧
    (∀ t₁, (headAtResync s r).trunk t₁ = s.trunk t₁) ∧ (headAtResync s r).params = s.params ∧
    (∀ b₁, (headAtResync s r).indexOf b₁ = s.indexOf b₁) := by
  unfold headAtResync; try dsimp only
  (repeat' split) <;> simp

@[simp] theorem resyncAck_frame (s : State) (r : RecIdx) (status : Byte) (attn : Bool) :
    (resyncAck s r status attn).pending = s.pending ∧ (resyncAck s r status attn).port = s.port ∧
    (resyncAck s r status attn).index = s.index ∧ (resyncAck s r status attn).serviceStack = s.serviceStack ∧
    (resyncAck s r status attn).trunkA = s.trunkA ∧ (resyncAck s r status attn).trunkB = s.trunkB ∧
    (resyncAck s r status attn).enableMask = s.enableMask ∧
    (resyncAck s r status attn).interruptLine = s.interruptLine ∧
    (resyncAck s r status attn).buffer = s.buffer ∧ (resyncAck s r status attn).busRead = s.busRead ∧
    (resyncAck s r status attn).freeCount = s.freeCount ∧
    (∀ t₁, (resyncAck s r status attn).trunk t₁ = s.trunk t₁) ∧ (resyncAck s r status attn).params = s.params ∧
    (∀ b₁, (resyncAck s r status attn).indexOf b₁ = s.indexOf b₁) := by
  simp [resyncAck]

@[simp] theorem resyncBusy_frame (s : State) (r : RecIdx) (status : Byte) (attn : Bool) :
    (resyncBusy s r status attn).pending = s.pending ∧ (resyncBusy s r status attn).port = s.port ∧
    (resyncBusy s r status attn).index = s.index ∧ (resyncBusy s r status attn).serviceStack = s.serviceStack ∧
    (resyncBusy s r status attn).enableMask = s.enableMask ∧
    (resyncBusy s r status attn).interruptLine = s.interruptLine ∧
    (resyncBusy s r status attn).buffer = s.buffer ∧ (resyncBusy s r status attn).busRead = s.busRead ∧
    (resyncBusy s r status attn).freeCount = s.freeCount ∧ (resyncBusy s r status attn).params = s.params ∧
    (∀ b₁, (resyncBusy s r status attn).indexOf b₁ = s.indexOf b₁) := by
  unfold resyncBusy; try dsimp only
  (repeat' split) <;> simp

@[simp] theorem resyncReject_frame (s : State) (r : RecIdx) (status : Byte) (attn : Bool) :
    (resyncReject s r status attn).pending = s.pending ∧ (resyncReject s r status attn).port = s.port ∧
    (resyncReject s r status attn).index = s.index ∧
    (resyncReject s r status attn).serviceStack = s.serviceStack ∧
    (resyncReject s r status attn).enableMask = s.enableMask ∧
    (resyncReject s r status attn).interruptLine = s.interruptLine ∧
    (resyncReject s r status attn).buffer = s.buffer ∧ (resyncReject s r status attn).busRead = s.busRead ∧
    (resyncReject s r status attn).freeCount = s.freeCount ∧ (resyncReject s r status attn).params = s.params ∧
    (∀ b₁, (resyncReject s r status attn).indexOf b₁ = s.indexOf b₁) := by
  simp [resyncReject]

@[simp] theorem resyncMiss_frame (s : State) (r : RecIdx) (m : Miss) :
    (resyncMiss s r m).pending = s.pending ∧ (resyncMiss s r m).port = s.port ∧
    (resyncMiss s r m).index = s.index ∧ (resyncMiss s r m).serviceStack = s.serviceStack ∧
    (resyncMiss s r m).enableMask = s.enableMask ∧ (resyncMiss s r m).interruptLine = s.interruptLine ∧
    (resyncMiss s r m).buffer = s.buffer ∧ (resyncMiss s r m).busRead = s.busRead ∧
    (resyncMiss s r m).freeCount = s.freeCount ∧ (resyncMiss s r m).params = s.params ∧
    (∀ b₁, (resyncMiss s r m).indexOf b₁ = s.indexOf b₁) := by
  unfold resyncMiss; try dsimp only
  (repeat' split) <;> simp

@[simp] theorem resyncEnd_frame (s : State) (r : RecIdx) (o : FrameOutcome) :
    (resyncEnd s r o).pending = s.pending ∧ (resyncEnd s r o).port = s.port ∧
    (resyncEnd s r o).serviceStack = s.serviceStack ∧ (resyncEnd s r o).enableMask = s.enableMask ∧
    (resyncEnd s r o).interruptLine = s.interruptLine ∧ (resyncEnd s r o).buffer = s.buffer ∧
    (resyncEnd s r o).busRead = s.busRead ∧ (resyncEnd s r o).freeCount = s.freeCount ∧
    (resyncEnd s r o).params = s.params := by
  unfold resyncEnd; try dsimp only
  (repeat' split) <;> simp

@[simp] theorem deliver_frame (s : State) (t : TrunkId) (o : FrameOwner) (out : FrameOutcome) :
    (deliver s t o out).pending = s.pending ∧ (deliver s t o out).port = s.port ∧
    (deliver s t o out).serviceStack = s.serviceStack ∧ (deliver s t o out).enableMask = s.enableMask ∧
    (deliver s t o out).interruptLine = s.interruptLine ∧ (deliver s t o out).busRead = s.busRead ∧
    (deliver s t o out).freeCount = s.freeCount ∧ (deliver s t o out).params = s.params := by
  unfold deliver; try dsimp only
  (repeat' split) <;> simp

@[simp] theorem clearFlight_frame (s : State) (t : TrunkId) :
    (clearFlight s t).pending = s.pending ∧ (clearFlight s t).port = s.port ∧
    (clearFlight s t).index = s.index ∧ (clearFlight s t).slots = s.slots ∧
    (clearFlight s t).groupQueue = s.groupQueue ∧ (clearFlight s t).serviceLists = s.serviceLists ∧
    (clearFlight s t).serviceStack = s.serviceStack ∧ (clearFlight s t).completions = s.completions ∧
    (clearFlight s t).changeFlags = s.changeFlags ∧ (clearFlight s t).seenMarks = s.seenMarks ∧
    (clearFlight s t).enableMask = s.enableMask ∧ (clearFlight s t).interruptLine = s.interruptLine ∧
    (clearFlight s t).buffer = s.buffer ∧ (clearFlight s t).busRead = s.busRead ∧
    (clearFlight s t).freeCount = s.freeCount ∧ (∀ n₁, (clearFlight s t).slot n₁ = s.slot n₁) ∧
    (clearFlight s t).params = s.params ∧ (∀ b₁, (clearFlight s t).indexOf b₁ = s.indexOf b₁) ∧
    (∀ r₁, (clearFlight s t).station r₁ = s.station r₁) := by
  simp [clearFlight]

@[simp] theorem endFrame_frame (s : State) (t : TrunkId) (o : FrameOwner) (out : FrameOutcome) :
    (endFrame s t o out).pending = s.pending ∧ (endFrame s t o out).port = s.port ∧
    (endFrame s t o out).serviceStack = s.serviceStack ∧ (endFrame s t o out).enableMask = s.enableMask ∧
    (endFrame s t o out).interruptLine = s.interruptLine ∧ (endFrame s t o out).busRead = s.busRead ∧
    (endFrame s t o out).freeCount = s.freeCount ∧ (endFrame s t o out).params = s.params := by
  simp [endFrame]

@[simp] theorem beginFrame_frame (s : State) (t : TrunkId) (o : FrameOwner) (f : Frame) :
    (beginFrame s t o f).pending = s.pending ∧ (beginFrame s t o f).port = s.port ∧
    (beginFrame s t o f).index = s.index ∧ (beginFrame s t o f).slots = s.slots ∧
    (beginFrame s t o f).groupQueue = s.groupQueue ∧ (beginFrame s t o f).serviceLists = s.serviceLists ∧
    (beginFrame s t o f).serviceStack = s.serviceStack ∧ (beginFrame s t o f).completions = s.completions ∧
    (beginFrame s t o f).changeFlags = s.changeFlags ∧ (beginFrame s t o f).seenMarks = s.seenMarks ∧
    (beginFrame s t o f).enableMask = s.enableMask ∧ (beginFrame s t o f).interruptLine = s.interruptLine ∧
    (beginFrame s t o f).buffer = s.buffer ∧ (beginFrame s t o f).busRead = s.busRead ∧
    (beginFrame s t o f).freeCount = s.freeCount ∧ (∀ n₁, (beginFrame s t o f).slot n₁ = s.slot n₁) ∧
    (beginFrame s t o f).params = s.params ∧ (∀ b₁, (beginFrame s t o f).indexOf b₁ = s.indexOf b₁) ∧
    (∀ r₁, (beginFrame s t o f).station r₁ = s.station r₁) := by
  simp [beginFrame]

@[simp] theorem sendExchange_frame (s : State) (t : TrunkId) (n : SlotIdx) (r : RecIdx) :
    (sendExchange s t n r).pending = s.pending ∧ (sendExchange s t n r).port = s.port ∧
    (sendExchange s t n r).index = s.index ∧ (sendExchange s t n r).groupQueue = s.groupQueue ∧
    (sendExchange s t n r).serviceLists = s.serviceLists ∧
    (sendExchange s t n r).serviceStack = s.serviceStack ∧ (sendExchange s t n r).completions = s.completions ∧
    (sendExchange s t n r).changeFlags = s.changeFlags ∧ (sendExchange s t n r).seenMarks = s.seenMarks ∧
    (sendExchange s t n r).enableMask = s.enableMask ∧ (sendExchange s t n r).interruptLine = s.interruptLine ∧
    (sendExchange s t n r).buffer = s.buffer ∧ (sendExchange s t n r).busRead = s.busRead ∧
    (sendExchange s t n r).freeCount = s.freeCount ∧ (sendExchange s t n r).params = s.params ∧
    (∀ b₁, (sendExchange s t n r).indexOf b₁ = s.indexOf b₁) ∧
    (∀ r₁, (sendExchange s t n r).station r₁ = s.station r₁) := by
  unfold sendExchange; try dsimp only
  (repeat' split) <;> simp

@[simp] theorem sendCopy_frame (s : State) (t : TrunkId) (n : SlotIdx) :
    (sendCopy s t n).pending = s.pending ∧ (sendCopy s t n).port = s.port ∧ (sendCopy s t n).index = s.index ∧
    (sendCopy s t n).groupQueue = s.groupQueue ∧ (sendCopy s t n).serviceLists = s.serviceLists ∧
    (sendCopy s t n).serviceStack = s.serviceStack ∧ (sendCopy s t n).completions = s.completions ∧
    (sendCopy s t n).changeFlags = s.changeFlags ∧ (sendCopy s t n).seenMarks = s.seenMarks ∧
    (sendCopy s t n).enableMask = s.enableMask ∧ (sendCopy s t n).interruptLine = s.interruptLine ∧
    (sendCopy s t n).buffer = s.buffer ∧ (sendCopy s t n).busRead = s.busRead ∧
    (sendCopy s t n).freeCount = s.freeCount ∧ (sendCopy s t n).params = s.params ∧
    (∀ b₁, (sendCopy s t n).indexOf b₁ = s.indexOf b₁) ∧ (∀ r₁, (sendCopy s t n).station r₁ = s.station r₁) := by
  simp [sendCopy]

@[simp] theorem sendFrame_frame (s : State) (t : TrunkId) (o : FrameOwner) :
    (sendFrame s t o).pending = s.pending ∧ (sendFrame s t o).port = s.port ∧
    (sendFrame s t o).index = s.index ∧ (sendFrame s t o).groupQueue = s.groupQueue ∧
    (sendFrame s t o).serviceLists = s.serviceLists ∧ (sendFrame s t o).serviceStack = s.serviceStack ∧
    (sendFrame s t o).completions = s.completions ∧ (sendFrame s t o).changeFlags = s.changeFlags ∧
    (sendFrame s t o).seenMarks = s.seenMarks ∧ (sendFrame s t o).enableMask = s.enableMask ∧
    (sendFrame s t o).interruptLine = s.interruptLine ∧ (sendFrame s t o).buffer = s.buffer ∧
    (sendFrame s t o).busRead = s.busRead ∧ (sendFrame s t o).freeCount = s.freeCount ∧
    (sendFrame s t o).params = s.params ∧ (∀ b₁, (sendFrame s t o).indexOf b₁ = s.indexOf b₁) ∧
    (∀ r₁, (sendFrame s t o).station r₁ = s.station r₁) := by
  cases o <;> simp [sendFrame]

@[simp] theorem markServed_frame (s : State) (t : TrunkId) (src : Source) (o : FrameOwner) :
    (markServed s t src o).pending = s.pending ∧ (markServed s t src o).port = s.port ∧
    (markServed s t src o).index = s.index ∧ (markServed s t src o).slots = s.slots ∧
    (markServed s t src o).groupQueue = s.groupQueue ∧ (markServed s t src o).serviceLists = s.serviceLists ∧
    (markServed s t src o).serviceStack = s.serviceStack ∧ (markServed s t src o).completions = s.completions ∧
    (markServed s t src o).changeFlags = s.changeFlags ∧ (markServed s t src o).seenMarks = s.seenMarks ∧
    (markServed s t src o).enableMask = s.enableMask ∧ (markServed s t src o).interruptLine = s.interruptLine ∧
    (markServed s t src o).buffer = s.buffer ∧ (markServed s t src o).busRead = s.busRead ∧
    (markServed s t src o).freeCount = s.freeCount ∧ (∀ n₁, (markServed s t src o).slot n₁ = s.slot n₁) ∧
    (markServed s t src o).params = s.params ∧ (∀ b₁, (markServed s t src o).indexOf b₁ = s.indexOf b₁) ∧
    (∀ r₁, (markServed s t src o).station r₁ = s.station r₁) := by
  unfold markServed; try dsimp only
  (repeat' split) <;> simp

@[simp] theorem startLineHold_frame (s : State) (t : TrunkId) :
    (startLineHold s t).pending = s.pending ∧ (startLineHold s t).port = s.port ∧
    (startLineHold s t).index = s.index ∧ (startLineHold s t).slots = s.slots ∧
    (startLineHold s t).groupQueue = s.groupQueue ∧ (startLineHold s t).serviceLists = s.serviceLists ∧
    (startLineHold s t).serviceStack = s.serviceStack ∧ (startLineHold s t).completions = s.completions ∧
    (startLineHold s t).changeFlags = s.changeFlags ∧ (startLineHold s t).seenMarks = s.seenMarks ∧
    (startLineHold s t).enableMask = s.enableMask ∧ (startLineHold s t).interruptLine = s.interruptLine ∧
    (startLineHold s t).buffer = s.buffer ∧ (startLineHold s t).busRead = s.busRead ∧
    (startLineHold s t).freeCount = s.freeCount ∧ (∀ n₁, (startLineHold s t).slot n₁ = s.slot n₁) ∧
    (startLineHold s t).params = s.params ∧ (∀ b₁, (startLineHold s t).indexOf b₁ = s.indexOf b₁) ∧
    (∀ r₁, (startLineHold s t).station r₁ = s.station r₁) := by
  unfold startLineHold; try dsimp only
  (repeat' split) <;> simp

@[simp] theorem endTransmission_frame (s : State) (t : TrunkId) (f : InFlight) :
    (endTransmission s t f).pending = s.pending ∧ (endTransmission s t f).port = s.port ∧
    (endTransmission s t f).index = s.index ∧ (endTransmission s t f).serviceLists = s.serviceLists ∧
    (endTransmission s t f).serviceStack = s.serviceStack ∧
    (endTransmission s t f).changeFlags = s.changeFlags ∧ (endTransmission s t f).seenMarks = s.seenMarks ∧
    (endTransmission s t f).enableMask = s.enableMask ∧
    (endTransmission s t f).interruptLine = s.interruptLine ∧ (endTransmission s t f).buffer = s.buffer ∧
    (endTransmission s t f).busRead = s.busRead ∧ (endTransmission s t f).freeCount = s.freeCount ∧
    (endTransmission s t f).params = s.params ∧ (∀ b₁, (endTransmission s t f).indexOf b₁ = s.indexOf b₁) := by
  unfold endTransmission; try dsimp only
  (repeat' split) <;> simp

@[simp] theorem countStray_frame (s : State) (t : TrunkId) (k : Nat) :
    (countStray s t k).pending = s.pending ∧ (countStray s t k).port = s.port ∧
    (countStray s t k).index = s.index ∧ (countStray s t k).slots = s.slots ∧
    (countStray s t k).groupQueue = s.groupQueue ∧ (countStray s t k).serviceLists = s.serviceLists ∧
    (countStray s t k).serviceStack = s.serviceStack ∧ (countStray s t k).completions = s.completions ∧
    (countStray s t k).changeFlags = s.changeFlags ∧ (countStray s t k).seenMarks = s.seenMarks ∧
    (countStray s t k).enableMask = s.enableMask ∧ (countStray s t k).interruptLine = s.interruptLine ∧
    (countStray s t k).buffer = s.buffer ∧ (countStray s t k).busRead = s.busRead ∧
    (countStray s t k).freeCount = s.freeCount ∧ (∀ n₁, (countStray s t k).slot n₁ = s.slot n₁) ∧
    (countStray s t k).params = s.params ∧ (∀ b₁, (countStray s t k).indexOf b₁ = s.indexOf b₁) ∧
    (∀ r₁, (countStray s t k).station r₁ = s.station r₁) := by
  simp [countStray]

@[simp] theorem endCharacter_frame (s : State) (t : TrunkId) :
    (endCharacter s t).pending = s.pending ∧ (endCharacter s t).port = s.port ∧
    (endCharacter s t).index = s.index ∧ (endCharacter s t).slots = s.slots ∧
    (endCharacter s t).groupQueue = s.groupQueue ∧ (endCharacter s t).serviceLists = s.serviceLists ∧
    (endCharacter s t).serviceStack = s.serviceStack ∧ (endCharacter s t).completions = s.completions ∧
    (endCharacter s t).changeFlags = s.changeFlags ∧ (endCharacter s t).seenMarks = s.seenMarks ∧
    (endCharacter s t).enableMask = s.enableMask ∧ (endCharacter s t).interruptLine = s.interruptLine ∧
    (endCharacter s t).buffer = s.buffer ∧ (endCharacter s t).busRead = s.busRead ∧
    (endCharacter s t).freeCount = s.freeCount ∧ (∀ n₁, (endCharacter s t).slot n₁ = s.slot n₁) ∧
    (endCharacter s t).params = s.params ∧ (∀ b₁, (endCharacter s t).indexOf b₁ = s.indexOf b₁) ∧
    (∀ r₁, (endCharacter s t).station r₁ = s.station r₁) := by
  simp [endCharacter]

@[simp] theorem cutCharacter_frame (s : State) (t : TrunkId) :
    (cutCharacter s t).pending = s.pending ∧ (cutCharacter s t).port = s.port ∧
    (cutCharacter s t).index = s.index ∧ (cutCharacter s t).slots = s.slots ∧
    (cutCharacter s t).groupQueue = s.groupQueue ∧ (cutCharacter s t).serviceLists = s.serviceLists ∧
    (cutCharacter s t).serviceStack = s.serviceStack ∧ (cutCharacter s t).completions = s.completions ∧
    (cutCharacter s t).changeFlags = s.changeFlags ∧ (cutCharacter s t).seenMarks = s.seenMarks ∧
    (cutCharacter s t).enableMask = s.enableMask ∧ (cutCharacter s t).interruptLine = s.interruptLine ∧
    (cutCharacter s t).buffer = s.buffer ∧ (cutCharacter s t).busRead = s.busRead ∧
    (cutCharacter s t).freeCount = s.freeCount ∧ (∀ n₁, (cutCharacter s t).slot n₁ = s.slot n₁) ∧
    (cutCharacter s t).params = s.params ∧ (∀ b₁, (cutCharacter s t).indexOf b₁ = s.indexOf b₁) ∧
    (∀ r₁, (cutCharacter s t).station r₁ = s.station r₁) := by
  unfold cutCharacter
  split <;> simp

@[simp] theorem receiveOutside_frame (s : State) (t : TrunkId) (c : RxChar) :
    (receiveOutside s t c).pending = s.pending ∧ (receiveOutside s t c).port = s.port ∧
    (receiveOutside s t c).index = s.index ∧ (receiveOutside s t c).slots = s.slots ∧
    (receiveOutside s t c).groupQueue = s.groupQueue ∧ (receiveOutside s t c).serviceLists = s.serviceLists ∧
    (receiveOutside s t c).serviceStack = s.serviceStack ∧ (receiveOutside s t c).completions = s.completions ∧
    (receiveOutside s t c).changeFlags = s.changeFlags ∧ (receiveOutside s t c).seenMarks = s.seenMarks ∧
    (receiveOutside s t c).enableMask = s.enableMask ∧ (receiveOutside s t c).interruptLine = s.interruptLine ∧
    (receiveOutside s t c).buffer = s.buffer ∧ (receiveOutside s t c).busRead = s.busRead ∧
    (receiveOutside s t c).freeCount = s.freeCount ∧ (∀ n₁, (receiveOutside s t c).slot n₁ = s.slot n₁) ∧
    (receiveOutside s t c).params = s.params ∧ (∀ b₁, (receiveOutside s t c).indexOf b₁ = s.indexOf b₁) ∧
    (∀ r₁, (receiveOutside s t c).station r₁ = s.station r₁) := by
  unfold receiveOutside; try dsimp only
  (repeat' split) <;> simp

@[simp] theorem continueReply_frame (s : State) (t : TrunkId) (f : InFlight) (chars : List RxChar) :
    (continueReply s t f chars).pending = s.pending ∧ (continueReply s t f chars).port = s.port ∧
    (continueReply s t f chars).serviceStack = s.serviceStack ∧
    (continueReply s t f chars).enableMask = s.enableMask ∧
    (continueReply s t f chars).interruptLine = s.interruptLine ∧
    (continueReply s t f chars).busRead = s.busRead ∧ (continueReply s t f chars).freeCount = s.freeCount ∧
    (continueReply s t f chars).params = s.params := by
  unfold continueReply
  split <;> simp

@[simp] theorem takeCharacters_frame (t : TrunkId) (chars : List RxChar) (s : State) :
    (takeCharacters t chars s).pending = s.pending ∧ (takeCharacters t chars s).port = s.port ∧
    (takeCharacters t chars s).serviceStack = s.serviceStack ∧ (takeCharacters t chars s).enableMask = s.enableMask ∧
    (takeCharacters t chars s).interruptLine = s.interruptLine ∧ (takeCharacters t chars s).busRead = s.busRead ∧
    (takeCharacters t chars s).freeCount = s.freeCount ∧ (takeCharacters t chars s).params = s.params := by
  induction chars generalizing s with
  | nil => simp [takeCharacters]
  | cons c rest ih =>
    unfold takeCharacters
    (repeat' split) <;> simp [ih]

@[simp] theorem receive_frame (t : TrunkId) (chars : List RxChar) (s : State) :
    (receive t chars s).pending = s.pending ∧ (receive t chars s).port = s.port ∧
    (receive t chars s).serviceStack = s.serviceStack ∧ (receive t chars s).enableMask = s.enableMask ∧
    (receive t chars s).interruptLine = s.interruptLine ∧ (receive t chars s).busRead = s.busRead ∧
    (receive t chars s).freeCount = s.freeCount ∧ (receive t chars s).params = s.params := by
  unfold receive; dsimp only
  split <;> simp

@[simp] theorem abandonFrame_frame (s : State) (o : FrameOwner) :
    (abandonFrame s o).pending = s.pending ∧ (abandonFrame s o).port = s.port ∧
    (abandonFrame s o).serviceLists = s.serviceLists ∧ (abandonFrame s o).serviceStack = s.serviceStack ∧
    (abandonFrame s o).trunkA = s.trunkA ∧ (abandonFrame s o).trunkB = s.trunkB ∧
    (abandonFrame s o).enableMask = s.enableMask ∧ (abandonFrame s o).interruptLine = s.interruptLine ∧
    (abandonFrame s o).buffer = s.buffer ∧ (abandonFrame s o).busRead = s.busRead ∧
    (abandonFrame s o).freeCount = s.freeCount ∧ (∀ t₁, (abandonFrame s o).trunk t₁ = s.trunk t₁) ∧
    (abandonFrame s o).params = s.params := by
  unfold abandonFrame; try dsimp only
  (repeat' split) <;> simp

@[simp] theorem failOver_frame (s : State) (r : RecIdx) (t : TrunkId) :
    (failOver s r t).pending = s.pending ∧ (failOver s r t).port = s.port ∧ (failOver s r t).index = s.index ∧
    (failOver s r t).slots = s.slots ∧ (failOver s r t).groupQueue = s.groupQueue ∧
    (failOver s r t).serviceLists = s.serviceLists ∧ (failOver s r t).serviceStack = s.serviceStack ∧
    (failOver s r t).completions = s.completions ∧ (failOver s r t).enableMask = s.enableMask ∧
    (failOver s r t).interruptLine = s.interruptLine ∧ (failOver s r t).buffer = s.buffer ∧
    (failOver s r t).busRead = s.busRead ∧ (failOver s r t).freeCount = s.freeCount ∧
    (∀ n₁, (failOver s r t).slot n₁ = s.slot n₁) ∧ (failOver s r t).params = s.params ∧
    (∀ b₁, (failOver s r t).indexOf b₁ = s.indexOf b₁) := by
  simp [failOver]

@[simp] theorem failOverHeld_frame (s : State) (r : RecIdx) (t : TrunkId) :
    (failOverHeld s r t).pending = s.pending ∧ (failOverHeld s r t).port = s.port ∧
    (failOverHeld s r t).index = s.index ∧ (failOverHeld s r t).slots = s.slots ∧
    (failOverHeld s r t).groupQueue = s.groupQueue ∧ (failOverHeld s r t).serviceLists = s.serviceLists ∧
    (failOverHeld s r t).serviceStack = s.serviceStack ∧ (failOverHeld s r t).trunkA = s.trunkA ∧
    (failOverHeld s r t).trunkB = s.trunkB ∧ (failOverHeld s r t).completions = s.completions ∧
    (failOverHeld s r t).enableMask = s.enableMask ∧ (failOverHeld s r t).interruptLine = s.interruptLine ∧
    (failOverHeld s r t).buffer = s.buffer ∧ (failOverHeld s r t).busRead = s.busRead ∧
    (failOverHeld s r t).freeCount = s.freeCount ∧ (∀ n₁, (failOverHeld s r t).slot n₁ = s.slot n₁) ∧
    (∀ t₁, (failOverHeld s r t).trunk t₁ = s.trunk t₁) ∧ (failOverHeld s r t).params = s.params ∧
    (∀ b₁, (failOverHeld s r t).indexOf b₁ = s.indexOf b₁) := by
  simp [failOverHeld]

@[simp] theorem treatStation_frame (s : State) (t : TrunkId) (b : Bool) (r : RecIdx) :
    (treatStation s t b r).pending = s.pending ∧ (treatStation s t b r).port = s.port ∧
    (treatStation s t b r).index = s.index ∧ (treatStation s t b r).serviceStack = s.serviceStack ∧
    (treatStation s t b r).enableMask = s.enableMask ∧ (treatStation s t b r).interruptLine = s.interruptLine ∧
    (treatStation s t b r).buffer = s.buffer ∧ (treatStation s t b r).busRead = s.busRead ∧
    (treatStation s t b r).freeCount = s.freeCount ∧ (treatStation s t b r).params = s.params ∧
    (∀ b₁, (treatStation s t b r).indexOf b₁ = s.indexOf b₁) := by
  unfold treatStation; try dsimp only
  (repeat' split) <;> simp

@[simp] theorem treatStations_frame (s : State) (t : TrunkId) (p : RecIdx → Bool) (l : List RecIdx) :
    (treatStations s t p l).pending = s.pending ∧ (treatStations s t p l).port = s.port ∧
    (treatStations s t p l).index = s.index ∧ (treatStations s t p l).serviceStack = s.serviceStack ∧
    (treatStations s t p l).enableMask = s.enableMask ∧
    (treatStations s t p l).interruptLine = s.interruptLine ∧ (treatStations s t p l).buffer = s.buffer ∧
    (treatStations s t p l).busRead = s.busRead ∧ (treatStations s t p l).freeCount = s.freeCount ∧
    (treatStations s t p l).params = s.params ∧ (∀ b₁, (treatStations s t p l).indexOf b₁ = s.indexOf b₁) := by
  induction l generalizing s with
  | nil => simp [treatStations]
  | cons r l ih => simp [treatStations, ih]

@[simp] theorem leaveOnline_frame (s : State) (t : TrunkId) (dest : TrunkState) :
    (leaveOnline s t dest).pending = s.pending ∧ (leaveOnline s t dest).port = s.port ∧
    (leaveOnline s t dest).serviceStack = s.serviceStack ∧ (leaveOnline s t dest).enableMask = s.enableMask ∧
    (leaveOnline s t dest).interruptLine = s.interruptLine ∧ (leaveOnline s t dest).buffer = s.buffer ∧
    (leaveOnline s t dest).busRead = s.busRead ∧ (leaveOnline s t dest).freeCount = s.freeCount ∧
    (leaveOnline s t dest).params = s.params := by
  unfold leaveOnline; try dsimp only
  (repeat' split) <;> simp

@[simp] theorem setEvent_frame (s : State) (t : TrunkId) :
    (setEvent s t).pending = s.pending ∧ (setEvent s t).port = s.port ∧ (setEvent s t).index = s.index ∧
    (setEvent s t).slots = s.slots ∧ (setEvent s t).groupQueue = s.groupQueue ∧
    (setEvent s t).serviceLists = s.serviceLists ∧ (setEvent s t).serviceStack = s.serviceStack ∧
    (setEvent s t).completions = s.completions ∧ (setEvent s t).changeFlags = s.changeFlags ∧
    (setEvent s t).seenMarks = s.seenMarks ∧ (setEvent s t).enableMask = s.enableMask ∧
    (setEvent s t).interruptLine = s.interruptLine ∧ (setEvent s t).buffer = s.buffer ∧
    (setEvent s t).busRead = s.busRead ∧ (setEvent s t).freeCount = s.freeCount ∧
    (∀ n₁, (setEvent s t).slot n₁ = s.slot n₁) ∧ (setEvent s t).params = s.params ∧
    (∀ b₁, (setEvent s t).indexOf b₁ = s.indexOf b₁) ∧ (∀ r₁, (setEvent s t).station r₁ = s.station r₁) := by
  simp [setEvent]

@[simp] theorem readRate_frame (s : State) (t : TrunkId) :
    (readRate s t).pending = s.pending ∧ (readRate s t).port = s.port ∧ (readRate s t).index = s.index ∧
    (readRate s t).slots = s.slots ∧ (readRate s t).groupQueue = s.groupQueue ∧
    (readRate s t).serviceLists = s.serviceLists ∧ (readRate s t).serviceStack = s.serviceStack ∧
    (readRate s t).completions = s.completions ∧ (readRate s t).changeFlags = s.changeFlags ∧
    (readRate s t).seenMarks = s.seenMarks ∧ (readRate s t).enableMask = s.enableMask ∧
    (readRate s t).interruptLine = s.interruptLine ∧ (readRate s t).buffer = s.buffer ∧
    (readRate s t).busRead = s.busRead ∧ (readRate s t).freeCount = s.freeCount ∧
    (∀ n₁, (readRate s t).slot n₁ = s.slot n₁) ∧ (readRate s t).params = s.params ∧
    (∀ b₁, (readRate s t).indexOf b₁ = s.indexOf b₁) ∧ (∀ r₁, (readRate s t).station r₁ = s.station r₁) := by
  simp [readRate]

end Sys2Proof.Machine
end

