-- ==== Sys2Proof/Laws/Commands.lean ====
section
/-! SUPPORT. What the effect of each command leaves alone, and how a step's outcome comes about: the two ways a command
runs, each in one lemma. -/

namespace Sys2Proof.Machine

/-! ### The two ways a command runs -/

/-- An accepted command that has not begun is executed and finished in one event (R182). -/
theorem runCommand_accepted {code : Nat} {body : Vector Word 6 → State → CmdResult} {s : State}
    (h : executing s code = true) :
    runCommand code body s = .next (settle (finishCommand (body s.port.snapshot s))) := by simp [runCommand, h]

/-- What is kept by the execution and by the end of a command is kept by the command. -/
theorem runCommand_keeps {P : State → Prop} {code : Nat} {body : Vector Word 6 → State → CmdResult} {s t : State}
    (hs : P s) (hb : P (settle (finishCommand (body s.port.snapshot s)))) (h : runCommand code body s = .next t) :
    P t := by
  unfold runCommand at h
  split at h <;> cases h <;> assumption

/-- What is kept by an event that comes about is kept by the event. -/
theorem occur_keeps {P : State → Prop} {o : Option State} {s t : State} (hs : P s)
    (ho : ∀ u, o = some u → P (settle u)) (h : occur o s = .next t) : P t := by
  cases o with
  | none => cases h; exact hs
  | some u => cases h; exact ho u rfl

@[simp] theorem finishCommand_frame (c : CmdResult) :
    (finishCommand c).pending = c.state.pending ∧ (finishCommand c).stations = c.state.stations ∧
    (finishCommand c).index = c.state.index ∧ (finishCommand c).slots = c.state.slots ∧
    (finishCommand c).groupQueue = c.state.groupQueue ∧ (finishCommand c).serviceLists = c.state.serviceLists ∧
    (finishCommand c).serviceStack = c.state.serviceStack ∧ (finishCommand c).trunkA = c.state.trunkA ∧
    (finishCommand c).trunkB = c.state.trunkB ∧ (finishCommand c).completions = c.state.completions ∧
    (finishCommand c).changeFlags = c.state.changeFlags ∧ (finishCommand c).seenMarks = c.state.seenMarks ∧
    (finishCommand c).enableMask = c.state.enableMask ∧ (finishCommand c).buffer = c.state.buffer ∧
    (finishCommand c).busRead = c.state.busRead ∧ (finishCommand c).freeCount = c.state.freeCount ∧
    (finishCommand c).params = c.state.params ∧ (∀ r, (finishCommand c).station r = c.state.station r) ∧
    (∀ n, (finishCommand c).slot n = c.state.slot n) ∧ (∀ t, (finishCommand c).trunk t = c.state.trunk t) ∧
    ∀ a, (finishCommand c).indexOf a = c.state.indexOf a := by
  simp [finishCommand, State.slot, State.trunk, State.params, State.indexOf, State.station]

@[simp] theorem refuse_state (s : State) (c : ResultCode) : (refuse s c).state = s := rfl

@[simp] theorem answer_state (s : State) (l : List Word) : (answer s l).state = s := rfl

/-! ### The effects of the commands -/

@[simp] theorem enrolStation_frame (s : State) (r : RecIdx) (e : EnrolArgs) :
    (enrolStation s r e).pending = s.pending ∧ (enrolStation s r e).port = s.port ∧
    (enrolStation s r e).slots = s.slots ∧ (enrolStation s r e).groupQueue = s.groupQueue ∧
    (enrolStation s r e).serviceLists = s.serviceLists ∧ (enrolStation s r e).serviceStack = s.serviceStack ∧
    (enrolStation s r e).completions = s.completions ∧ (enrolStation s r e).enableMask = s.enableMask ∧
    (enrolStation s r e).interruptLine = s.interruptLine ∧ (enrolStation s r e).buffer = s.buffer ∧
    (enrolStation s r e).busRead = s.busRead ∧ (enrolStation s r e).freeCount = s.freeCount ∧
    (∀ n₁, (enrolStation s r e).slot n₁ = s.slot n₁) ∧ (enrolStation s r e).params = s.params := by
  unfold enrolStation; try dsimp only
  (repeat' split) <;> simp

@[simp] theorem movePriority_frame (s : State) (r : RecIdx) (p : Fin 8) :
    (movePriority s r p).pending = s.pending ∧ (movePriority s r p).port = s.port ∧
    (movePriority s r p).index = s.index ∧ (movePriority s r p).slots = s.slots ∧
    (movePriority s r p).groupQueue = s.groupQueue ∧ (movePriority s r p).serviceStack = s.serviceStack ∧
    (movePriority s r p).trunkA = s.trunkA ∧ (movePriority s r p).trunkB = s.trunkB ∧
    (movePriority s r p).completions = s.completions ∧ (movePriority s r p).changeFlags = s.changeFlags ∧
    (movePriority s r p).seenMarks = s.seenMarks ∧ (movePriority s r p).enableMask = s.enableMask ∧
    (movePriority s r p).interruptLine = s.interruptLine ∧ (movePriority s r p).buffer = s.buffer ∧
    (movePriority s r p).busRead = s.busRead ∧ (movePriority s r p).freeCount = s.freeCount ∧
    (∀ n₁, (movePriority s r p).slot n₁ = s.slot n₁) ∧ (∀ t₁, (movePriority s r p).trunk t₁ = s.trunk t₁) ∧
    (movePriority s r p).params = s.params ∧ (∀ b₁, (movePriority s r p).indexOf b₁ = s.indexOf b₁) := by
  unfold movePriority; try dsimp only
  (repeat' split) <;> simp

@[simp] theorem setArmed_frame (s : State) (r : RecIdx) (b : Bool) :
    (setArmed s r b).pending = s.pending ∧ (setArmed s r b).port = s.port ∧ (setArmed s r b).index = s.index ∧
    (setArmed s r b).slots = s.slots ∧ (setArmed s r b).groupQueue = s.groupQueue ∧
    (setArmed s r b).serviceStack = s.serviceStack ∧ (setArmed s r b).trunkA = s.trunkA ∧
    (setArmed s r b).trunkB = s.trunkB ∧ (setArmed s r b).completions = s.completions ∧
    (setArmed s r b).changeFlags = s.changeFlags ∧ (setArmed s r b).seenMarks = s.seenMarks ∧
    (setArmed s r b).enableMask = s.enableMask ∧ (setArmed s r b).interruptLine = s.interruptLine ∧
    (setArmed s r b).buffer = s.buffer ∧ (setArmed s r b).busRead = s.busRead ∧
    (setArmed s r b).freeCount = s.freeCount ∧ (∀ n₁, (setArmed s r b).slot n₁ = s.slot n₁) ∧
    (∀ t₁, (setArmed s r b).trunk t₁ = s.trunk t₁) ∧ (setArmed s r b).params = s.params ∧
    (∀ b₁, (setArmed s r b).indexOf b₁ = s.indexOf b₁) := by
  unfold setArmed; try dsimp only
  (repeat' split) <;> simp

@[simp] theorem modifyStation_frame (s : State) (r : RecIdx) (e : ModifyArgs) :
    (modifyStation s r e).pending = s.pending ∧ (modifyStation s r e).port = s.port ∧
    (modifyStation s r e).index = s.index ∧ (modifyStation s r e).slots = s.slots ∧
    (modifyStation s r e).groupQueue = s.groupQueue ∧ (modifyStation s r e).serviceStack = s.serviceStack ∧
    (modifyStation s r e).trunkA = s.trunkA ∧ (modifyStation s r e).trunkB = s.trunkB ∧
    (modifyStation s r e).completions = s.completions ∧ (modifyStation s r e).changeFlags = s.changeFlags ∧
    (modifyStation s r e).seenMarks = s.seenMarks ∧ (modifyStation s r e).enableMask = s.enableMask ∧
    (modifyStation s r e).interruptLine = s.interruptLine ∧ (modifyStation s r e).buffer = s.buffer ∧
    (modifyStation s r e).busRead = s.busRead ∧ (modifyStation s r e).freeCount = s.freeCount ∧
    (∀ n₁, (modifyStation s r e).slot n₁ = s.slot n₁) ∧ (∀ t₁, (modifyStation s r e).trunk t₁ = s.trunk t₁) ∧
    (modifyStation s r e).params = s.params ∧ (∀ b₁, (modifyStation s r e).indexOf b₁ = s.indexOf b₁) := by
  unfold modifyStation; try dsimp only
  (repeat' split) <;> simp

@[simp] theorem holdStation_frame (s : State) (r : RecIdx) :
    (holdStation s r).pending = s.pending ∧ (holdStation s r).port = s.port ∧
    (holdStation s r).index = s.index ∧ (holdStation s r).slots = s.slots ∧
    (holdStation s r).groupQueue = s.groupQueue ∧ (holdStation s r).serviceLists = s.serviceLists ∧
    (holdStation s r).serviceStack = s.serviceStack ∧ (holdStation s r).completions = s.completions ∧
    (holdStation s r).enableMask = s.enableMask ∧ (holdStation s r).interruptLine = s.interruptLine ∧
    (holdStation s r).buffer = s.buffer ∧ (holdStation s r).busRead = s.busRead ∧
    (holdStation s r).freeCount = s.freeCount ∧ (∀ n₁, (holdStation s r).slot n₁ = s.slot n₁) ∧
    (holdStation s r).params = s.params ∧ (∀ b₁, (holdStation s r).indexOf b₁ = s.indexOf b₁) := by
  unfold holdStation; try dsimp only
  simp

@[simp] theorem resumeStation_frame (s : State) (r : RecIdx) :
    (resumeStation s r).pending = s.pending ∧ (resumeStation s r).port = s.port ∧
    (resumeStation s r).index = s.index ∧ (resumeStation s r).slots = s.slots ∧
    (resumeStation s r).groupQueue = s.groupQueue ∧ (resumeStation s r).serviceLists = s.serviceLists ∧
    (resumeStation s r).serviceStack = s.serviceStack ∧ (resumeStation s r).completions = s.completions ∧
    (resumeStation s r).enableMask = s.enableMask ∧ (resumeStation s r).interruptLine = s.interruptLine ∧
    (resumeStation s r).buffer = s.buffer ∧ (resumeStation s r).busRead = s.busRead ∧
    (resumeStation s r).freeCount = s.freeCount ∧ (∀ n₁, (resumeStation s r).slot n₁ = s.slot n₁) ∧
    (resumeStation s r).params = s.params ∧ (∀ b₁, (resumeStation s r).indexOf b₁ = s.indexOf b₁) := by
  unfold resumeStation; try dsimp only
  (repeat' split) <;> simp

@[simp] theorem clearStation_frame (s : State) (r : RecIdx) :
    (clearStation s r).pending = s.pending ∧ (clearStation s r).port = s.port ∧
    (clearStation s r).index = s.index ∧ (clearStation s r).serviceStack = s.serviceStack ∧
    (clearStation s r).changeFlags = s.changeFlags ∧ (clearStation s r).seenMarks = s.seenMarks ∧
    (clearStation s r).enableMask = s.enableMask ∧ (clearStation s r).interruptLine = s.interruptLine ∧
    (clearStation s r).buffer = s.buffer ∧ (clearStation s r).busRead = s.busRead ∧
    (clearStation s r).freeCount = s.freeCount ∧ (clearStation s r).params = s.params ∧
    (∀ b₁, (clearStation s r).indexOf b₁ = s.indexOf b₁) := by
  unfold clearStation; try dsimp only
  simp

@[simp] theorem moveStation_frame (s : State) (r : RecIdx) (t : TrunkId) :
    (moveStation s r t).pending = s.pending ∧ (moveStation s r t).port = s.port ∧
    (moveStation s r t).index = s.index ∧ (moveStation s r t).slots = s.slots ∧
    (moveStation s r t).groupQueue = s.groupQueue ∧ (moveStation s r t).serviceLists = s.serviceLists ∧
    (moveStation s r t).serviceStack = s.serviceStack ∧ (moveStation s r t).completions = s.completions ∧
    (moveStation s r t).enableMask = s.enableMask ∧ (moveStation s r t).interruptLine = s.interruptLine ∧
    (moveStation s r t).buffer = s.buffer ∧ (moveStation s r t).busRead = s.busRead ∧
    (moveStation s r t).freeCount = s.freeCount ∧ (∀ n₁, (moveStation s r t).slot n₁ = s.slot n₁) ∧
    (moveStation s r t).params = s.params ∧ (∀ b₁, (moveStation s r t).indexOf b₁ = s.indexOf b₁) := by
  unfold moveStation; try dsimp only
  (repeat' split) <;> simp

@[simp] theorem enqueueSlot_frame (s : State) (n : SlotIdx) :
    (enqueueSlot s n).pending = s.pending ∧ (enqueueSlot s n).port = s.port ∧
    (enqueueSlot s n).index = s.index ∧ (enqueueSlot s n).serviceLists = s.serviceLists ∧
    (enqueueSlot s n).serviceStack = s.serviceStack ∧ (enqueueSlot s n).trunkA = s.trunkA ∧
    (enqueueSlot s n).trunkB = s.trunkB ∧ (enqueueSlot s n).changeFlags = s.changeFlags ∧
    (enqueueSlot s n).seenMarks = s.seenMarks ∧ (enqueueSlot s n).enableMask = s.enableMask ∧
    (enqueueSlot s n).interruptLine = s.interruptLine ∧ (enqueueSlot s n).buffer = s.buffer ∧
    (enqueueSlot s n).busRead = s.busRead ∧ (enqueueSlot s n).freeCount = s.freeCount ∧
    (∀ t₁, (enqueueSlot s n).trunk t₁ = s.trunk t₁) ∧ (enqueueSlot s n).params = s.params ∧
    (∀ b₁, (enqueueSlot s n).indexOf b₁ = s.indexOf b₁) := by
  unfold enqueueSlot; try dsimp only
  (repeat' split) <;> simp [State.slot, State.trunk, State.params, State.indexOf]

@[simp] theorem cancelGroup_frame (s : State) (n : SlotIdx) :
    ((cancelGroup s n).state).pending = s.pending ∧ ((cancelGroup s n).state).port = s.port ∧
    ((cancelGroup s n).state).index = s.index ∧ ((cancelGroup s n).state).serviceLists = s.serviceLists ∧
    ((cancelGroup s n).state).serviceStack = s.serviceStack ∧ ((cancelGroup s n).state).trunkA = s.trunkA ∧
    ((cancelGroup s n).state).trunkB = s.trunkB ∧ ((cancelGroup s n).state).changeFlags = s.changeFlags ∧
    ((cancelGroup s n).state).seenMarks = s.seenMarks ∧ ((cancelGroup s n).state).enableMask = s.enableMask ∧
    ((cancelGroup s n).state).interruptLine = s.interruptLine ∧ ((cancelGroup s n).state).buffer = s.buffer ∧
    ((cancelGroup s n).state).busRead = s.busRead ∧ ((cancelGroup s n).state).freeCount = s.freeCount ∧
    (∀ t₁, ((cancelGroup s n).state).trunk t₁ = s.trunk t₁) ∧ ((cancelGroup s n).state).params = s.params ∧
    (∀ b₁, ((cancelGroup s n).state).indexOf b₁ = s.indexOf b₁) := by
  unfold cancelGroup; try dsimp only
  (repeat' split) <;> simp

@[simp] theorem cancelExchange_frame (s : State) (n : SlotIdx) :
    ((cancelExchange s n).state).pending = s.pending ∧ ((cancelExchange s n).state).port = s.port ∧
    ((cancelExchange s n).state).index = s.index ∧ ((cancelExchange s n).state).serviceLists = s.serviceLists ∧
    ((cancelExchange s n).state).serviceStack = s.serviceStack ∧
    ((cancelExchange s n).state).enableMask = s.enableMask ∧
    ((cancelExchange s n).state).interruptLine = s.interruptLine ∧
    ((cancelExchange s n).state).buffer = s.buffer ∧ ((cancelExchange s n).state).busRead = s.busRead ∧
    ((cancelExchange s n).state).freeCount = s.freeCount ∧ ((cancelExchange s n).state).params = s.params ∧
    (∀ b₁, ((cancelExchange s n).state).indexOf b₁ = s.indexOf b₁) := by
  unfold cancelExchange; try dsimp only
  (repeat' split) <;> simp

@[simp] theorem collectSlot_frame (s : State) (n : SlotIdx) :
    (collectSlot s n).pending = s.pending ∧ (collectSlot s n).port = s.port ∧
    (collectSlot s n).index = s.index ∧ (collectSlot s n).groupQueue = s.groupQueue ∧
    (collectSlot s n).serviceLists = s.serviceLists ∧ (collectSlot s n).serviceStack = s.serviceStack ∧
    (collectSlot s n).trunkA = s.trunkA ∧ (collectSlot s n).trunkB = s.trunkB ∧
    (collectSlot s n).changeFlags = s.changeFlags ∧ (collectSlot s n).seenMarks = s.seenMarks ∧
    (collectSlot s n).enableMask = s.enableMask ∧ (collectSlot s n).interruptLine = s.interruptLine ∧
    (collectSlot s n).buffer = s.buffer ∧ (collectSlot s n).busRead = s.busRead ∧
    (collectSlot s n).freeCount = s.freeCount ∧ (∀ t₁, (collectSlot s n).trunk t₁ = s.trunk t₁) ∧
    (collectSlot s n).params = s.params ∧ (∀ b₁, (collectSlot s n).indexOf b₁ = s.indexOf b₁) ∧
    (∀ r₁, (collectSlot s n).station r₁ = s.station r₁) := by
  unfold collectSlot; try dsimp only
  simp [State.trunk, State.params, State.indexOf, State.station]

@[simp] theorem reRaiseStation_frame (s : State) (r : RecIdx) :
    (reRaiseStation s r).pending = s.pending ∧ (reRaiseStation s r).port = s.port ∧
    (reRaiseStation s r).index = s.index ∧ (reRaiseStation s r).slots = s.slots ∧
    (reRaiseStation s r).groupQueue = s.groupQueue ∧ (reRaiseStation s r).serviceStack = s.serviceStack ∧
    (reRaiseStation s r).trunkA = s.trunkA ∧ (reRaiseStation s r).trunkB = s.trunkB ∧
    (reRaiseStation s r).completions = s.completions ∧ (reRaiseStation s r).changeFlags = s.changeFlags ∧
    (reRaiseStation s r).seenMarks = s.seenMarks ∧ (reRaiseStation s r).enableMask = s.enableMask ∧
    (reRaiseStation s r).interruptLine = s.interruptLine ∧ (reRaiseStation s r).buffer = s.buffer ∧
    (reRaiseStation s r).busRead = s.busRead ∧ (reRaiseStation s r).freeCount = s.freeCount ∧
    (∀ n₁, (reRaiseStation s r).slot n₁ = s.slot n₁) ∧ (∀ t₁, (reRaiseStation s r).trunk t₁ = s.trunk t₁) ∧
    (reRaiseStation s r).params = s.params ∧ (∀ b₁, (reRaiseStation s r).indexOf b₁ = s.indexOf b₁) := by
  unfold reRaiseStation; try dsimp only
  (repeat' split) <;> simp

@[simp] theorem takeWinner_frame (s : State) (p : Fin 8) (r : RecIdx) :
    (takeWinner s p r).pending = s.pending ∧ (takeWinner s p r).port = s.port ∧
    (takeWinner s p r).index = s.index ∧ (takeWinner s p r).slots = s.slots ∧
    (takeWinner s p r).groupQueue = s.groupQueue ∧ (takeWinner s p r).trunkA = s.trunkA ∧
    (takeWinner s p r).trunkB = s.trunkB ∧ (takeWinner s p r).completions = s.completions ∧
    (takeWinner s p r).changeFlags = s.changeFlags ∧ (takeWinner s p r).seenMarks = s.seenMarks ∧
    (takeWinner s p r).enableMask = s.enableMask ∧ (takeWinner s p r).interruptLine = s.interruptLine ∧
    (takeWinner s p r).buffer = s.buffer ∧ (takeWinner s p r).busRead = s.busRead ∧
    (takeWinner s p r).freeCount = s.freeCount ∧ (∀ n₁, (takeWinner s p r).slot n₁ = s.slot n₁) ∧
    (∀ t₁, (takeWinner s p r).trunk t₁ = s.trunk t₁) ∧ (takeWinner s p r).params = s.params ∧
    (∀ b₁, (takeWinner s p r).indexOf b₁ = s.indexOf b₁) := by
  unfold takeWinner; try dsimp only
  simp [State.slot, State.trunk, State.params, State.indexOf, State.station]

@[simp] theorem enableTrunk_frame (s : State) (t : TrunkId) :
    (enableTrunk s t).pending = s.pending ∧ (enableTrunk s t).port = s.port ∧
    (enableTrunk s t).index = s.index ∧ (enableTrunk s t).slots = s.slots ∧
    (enableTrunk s t).groupQueue = s.groupQueue ∧ (enableTrunk s t).serviceLists = s.serviceLists ∧
    (enableTrunk s t).serviceStack = s.serviceStack ∧ (enableTrunk s t).completions = s.completions ∧
    (enableTrunk s t).changeFlags = s.changeFlags ∧ (enableTrunk s t).seenMarks = s.seenMarks ∧
    (enableTrunk s t).enableMask = s.enableMask ∧ (enableTrunk s t).interruptLine = s.interruptLine ∧
    (enableTrunk s t).buffer = s.buffer ∧ (enableTrunk s t).busRead = s.busRead ∧
    (enableTrunk s t).freeCount = s.freeCount ∧ (∀ n₁, (enableTrunk s t).slot n₁ = s.slot n₁) ∧
    (enableTrunk s t).params = s.params ∧ (∀ b₁, (enableTrunk s t).indexOf b₁ = s.indexOf b₁) ∧
    (∀ r₁, (enableTrunk s t).station r₁ = s.station r₁) := by
  unfold enableTrunk; try dsimp only
  (repeat' split) <;> simp

@[simp] theorem disableTrunk_frame (s : State) (t : TrunkId) :
    (disableTrunk s t).pending = s.pending ∧ (disableTrunk s t).port = s.port ∧
    (disableTrunk s t).serviceStack = s.serviceStack ∧ (disableTrunk s t).enableMask = s.enableMask ∧
    (disableTrunk s t).interruptLine = s.interruptLine ∧ (disableTrunk s t).buffer = s.buffer ∧
    (disableTrunk s t).busRead = s.busRead ∧ (disableTrunk s t).freeCount = s.freeCount ∧
    (disableTrunk s t).params = s.params := by
  unfold disableTrunk; try dsimp only
  (repeat' split) <;> simp

@[simp] theorem enrolBody_frame (a : Vector Word 6) (s : State) :
    ((enrolBody a s).state).pending = s.pending ∧ ((enrolBody a s).state).port = s.port ∧
    ((enrolBody a s).state).slots = s.slots ∧ ((enrolBody a s).state).groupQueue = s.groupQueue ∧
    ((enrolBody a s).state).serviceLists = s.serviceLists ∧
    ((enrolBody a s).state).serviceStack = s.serviceStack ∧
    ((enrolBody a s).state).completions = s.completions ∧ ((enrolBody a s).state).enableMask = s.enableMask ∧
    ((enrolBody a s).state).interruptLine = s.interruptLine ∧ ((enrolBody a s).state).buffer = s.buffer ∧
    ((enrolBody a s).state).busRead = s.busRead ∧ ((enrolBody a s).state).freeCount = s.freeCount ∧
    (∀ n₁, ((enrolBody a s).state).slot n₁ = s.slot n₁) ∧ ((enrolBody a s).state).params = s.params := by
  unfold enrolBody; try dsimp only
  (repeat' split) <;> simp

@[simp] theorem findBody_frame (a : Vector Word 6) (s : State) :
    ((findBody a s).state).pending = s.pending ∧ ((findBody a s).state).port = s.port ∧
    ((findBody a s).state).index = s.index ∧ ((findBody a s).state).slots = s.slots ∧
    ((findBody a s).state).groupQueue = s.groupQueue ∧ ((findBody a s).state).serviceLists = s.serviceLists ∧
    ((findBody a s).state).serviceStack = s.serviceStack ∧ ((findBody a s).state).trunkA = s.trunkA ∧
    ((findBody a s).state).trunkB = s.trunkB ∧ ((findBody a s).state).completions = s.completions ∧
    ((findBody a s).state).changeFlags = s.changeFlags ∧ ((findBody a s).state).seenMarks = s.seenMarks ∧
    ((findBody a s).state).enableMask = s.enableMask ∧ ((findBody a s).state).interruptLine = s.interruptLine ∧
    ((findBody a s).state).buffer = s.buffer ∧ ((findBody a s).state).busRead = s.busRead ∧
    ((findBody a s).state).freeCount = s.freeCount ∧ (∀ n₁, ((findBody a s).state).slot n₁ = s.slot n₁) ∧
    (∀ t₁, ((findBody a s).state).trunk t₁ = s.trunk t₁) ∧ ((findBody a s).state).params = s.params ∧
    (∀ b₁, ((findBody a s).state).indexOf b₁ = s.indexOf b₁) ∧
    (∀ r₁, ((findBody a s).state).station r₁ = s.station r₁) := by
  unfold findBody; try dsimp only
  (repeat' split) <;> simp

@[simp] theorem inspectBody_frame (a : Vector Word 6) (s : State) :
    ((inspectBody a s).state).pending = s.pending ∧ ((inspectBody a s).state).port = s.port ∧
    ((inspectBody a s).state).index = s.index ∧ ((inspectBody a s).state).slots = s.slots ∧
    ((inspectBody a s).state).groupQueue = s.groupQueue ∧
    ((inspectBody a s).state).serviceLists = s.serviceLists ∧
    ((inspectBody a s).state).serviceStack = s.serviceStack ∧ ((inspectBody a s).state).trunkA = s.trunkA ∧
    ((inspectBody a s).state).trunkB = s.trunkB ∧ ((inspectBody a s).state).completions = s.completions ∧
    ((inspectBody a s).state).changeFlags = s.changeFlags ∧ ((inspectBody a s).state).seenMarks = s.seenMarks ∧
    ((inspectBody a s).state).enableMask = s.enableMask ∧
    ((inspectBody a s).state).interruptLine = s.interruptLine ∧ ((inspectBody a s).state).buffer = s.buffer ∧
    ((inspectBody a s).state).busRead = s.busRead ∧ (∀ n₁, ((inspectBody a s).state).slot n₁ = s.slot n₁) ∧
    (∀ t₁, ((inspectBody a s).state).trunk t₁ = s.trunk t₁) ∧ ((inspectBody a s).state).params = s.params ∧
    (∀ b₁, ((inspectBody a s).state).indexOf b₁ = s.indexOf b₁) ∧
    (∀ r₁, ((inspectBody a s).state).station r₁ = s.station r₁) := by
  unfold inspectBody; try dsimp only
  (repeat' split) <;> simp

@[simp] theorem modifyBody_frame (a : Vector Word 6) (s : State) :
    ((modifyBody a s).state).pending = s.pending ∧ ((modifyBody a s).state).port = s.port ∧
    ((modifyBody a s).state).index = s.index ∧ ((modifyBody a s).state).slots = s.slots ∧
    ((modifyBody a s).state).groupQueue = s.groupQueue ∧
    ((modifyBody a s).state).serviceStack = s.serviceStack ∧ ((modifyBody a s).state).trunkA = s.trunkA ∧
    ((modifyBody a s).state).trunkB = s.trunkB ∧ ((modifyBody a s).state).completions = s.completions ∧
    ((modifyBody a s).state).changeFlags = s.changeFlags ∧ ((modifyBody a s).state).seenMarks = s.seenMarks ∧
    ((modifyBody a s).state).enableMask = s.enableMask ∧
    ((modifyBody a s).state).interruptLine = s.interruptLine ∧ ((modifyBody a s).state).buffer = s.buffer ∧
    ((modifyBody a s).state).busRead = s.busRead ∧ ((modifyBody a s).state).freeCount = s.freeCount ∧
    (∀ n₁, ((modifyBody a s).state).slot n₁ = s.slot n₁) ∧
    (∀ t₁, ((modifyBody a s).state).trunk t₁ = s.trunk t₁) ∧ ((modifyBody a s).state).params = s.params ∧
    (∀ b₁, ((modifyBody a s).state).indexOf b₁ = s.indexOf b₁) := by
  unfold modifyBody; try dsimp only
  (repeat' split) <;> simp

@[simp] theorem holdBody_frame (a : Vector Word 6) (s : State) :
    ((holdBody a s).state).pending = s.pending ∧ ((holdBody a s).state).port = s.port ∧
    ((holdBody a s).state).index = s.index ∧ ((holdBody a s).state).slots = s.slots ∧
    ((holdBody a s).state).groupQueue = s.groupQueue ∧ ((holdBody a s).state).serviceLists = s.serviceLists ∧
    ((holdBody a s).state).serviceStack = s.serviceStack ∧ ((holdBody a s).state).completions = s.completions ∧
    ((holdBody a s).state).enableMask = s.enableMask ∧ ((holdBody a s).state).interruptLine = s.interruptLine ∧
    ((holdBody a s).state).buffer = s.buffer ∧ ((holdBody a s).state).busRead = s.busRead ∧
    ((holdBody a s).state).freeCount = s.freeCount ∧ (∀ n₁, ((holdBody a s).state).slot n₁ = s.slot n₁) ∧
    ((holdBody a s).state).params = s.params ∧ (∀ b₁, ((holdBody a s).state).indexOf b₁ = s.indexOf b₁) := by
  unfold holdBody; try dsimp only
  (repeat' split) <;> simp

@[simp] theorem resumeBody_frame (a : Vector Word 6) (s : State) :
    ((resumeBody a s).state).pending = s.pending ∧ ((resumeBody a s).state).port = s.port ∧
    ((resumeBody a s).state).index = s.index ∧ ((resumeBody a s).state).slots = s.slots ∧
    ((resumeBody a s).state).groupQueue = s.groupQueue ∧
    ((resumeBody a s).state).serviceLists = s.serviceLists ∧
    ((resumeBody a s).state).serviceStack = s.serviceStack ∧
    ((resumeBody a s).state).completions = s.completions ∧ ((resumeBody a s).state).enableMask = s.enableMask ∧
    ((resumeBody a s).state).interruptLine = s.interruptLine ∧ ((resumeBody a s).state).buffer = s.buffer ∧
    ((resumeBody a s).state).busRead = s.busRead ∧ ((resumeBody a s).state).freeCount = s.freeCount ∧
    (∀ n₁, ((resumeBody a s).state).slot n₁ = s.slot n₁) ∧ ((resumeBody a s).state).params = s.params ∧
    (∀ b₁, ((resumeBody a s).state).indexOf b₁ = s.indexOf b₁) := by
  unfold resumeBody; try dsimp only
  (repeat' split) <;> simp

@[simp] theorem retireBody_frame (a : Vector Word 6) (s : State) :
    ((retireBody a s).state).pending = s.pending ∧ ((retireBody a s).state).port = s.port ∧
    ((retireBody a s).state).serviceStack = s.serviceStack ∧
    ((retireBody a s).state).enableMask = s.enableMask ∧
    ((retireBody a s).state).interruptLine = s.interruptLine ∧ ((retireBody a s).state).buffer = s.buffer ∧
    ((retireBody a s).state).busRead = s.busRead ∧ ((retireBody a s).state).freeCount = s.freeCount ∧
    ((retireBody a s).state).params = s.params := by
  unfold retireBody; try dsimp only
  (repeat' split) <;> simp

@[simp] theorem moveBody_frame (a : Vector Word 6) (s : State) :
    ((moveBody a s).state).pending = s.pending ∧ ((moveBody a s).state).port = s.port ∧
    ((moveBody a s).state).index = s.index ∧ ((moveBody a s).state).slots = s.slots ∧
    ((moveBody a s).state).groupQueue = s.groupQueue ∧ ((moveBody a s).state).serviceLists = s.serviceLists ∧
    ((moveBody a s).state).serviceStack = s.serviceStack ∧ ((moveBody a s).state).completions = s.completions ∧
    ((moveBody a s).state).enableMask = s.enableMask ∧ ((moveBody a s).state).interruptLine = s.interruptLine ∧
    ((moveBody a s).state).buffer = s.buffer ∧ ((moveBody a s).state).busRead = s.busRead ∧
    ((moveBody a s).state).freeCount = s.freeCount ∧ (∀ n₁, ((moveBody a s).state).slot n₁ = s.slot n₁) ∧
    ((moveBody a s).state).params = s.params ∧ (∀ b₁, ((moveBody a s).state).indexOf b₁ = s.indexOf b₁) := by
  unfold moveBody; try dsimp only
  (repeat' split) <;> simp

@[simp] theorem submitBody_frame (a : Vector Word 6) (s : State) :
    ((submitBody a s).state).pending = s.pending ∧ ((submitBody a s).state).port = s.port ∧
    ((submitBody a s).state).index = s.index ∧ ((submitBody a s).state).serviceLists = s.serviceLists ∧
    ((submitBody a s).state).serviceStack = s.serviceStack ∧ ((submitBody a s).state).trunkA = s.trunkA ∧
    ((submitBody a s).state).trunkB = s.trunkB ∧ ((submitBody a s).state).changeFlags = s.changeFlags ∧
    ((submitBody a s).state).seenMarks = s.seenMarks ∧ ((submitBody a s).state).enableMask = s.enableMask ∧
    ((submitBody a s).state).interruptLine = s.interruptLine ∧ ((submitBody a s).state).buffer = s.buffer ∧
    ((submitBody a s).state).busRead = s.busRead ∧ ((submitBody a s).state).freeCount = s.freeCount ∧
    (∀ t₁, ((submitBody a s).state).trunk t₁ = s.trunk t₁) ∧ ((submitBody a s).state).params = s.params ∧
    (∀ b₁, ((submitBody a s).state).indexOf b₁ = s.indexOf b₁) := by
  unfold submitBody; try dsimp only
  (repeat' split) <;> simp

@[simp] theorem cancelBody_frame (a : Vector Word 6) (s : State) :
    ((cancelBody a s).state).pending = s.pending ∧ ((cancelBody a s).state).port = s.port ∧
    ((cancelBody a s).state).index = s.index ∧ ((cancelBody a s).state).serviceLists = s.serviceLists ∧
    ((cancelBody a s).state).serviceStack = s.serviceStack ∧
    ((cancelBody a s).state).enableMask = s.enableMask ∧
    ((cancelBody a s).state).interruptLine = s.interruptLine ∧ ((cancelBody a s).state).buffer = s.buffer ∧
    ((cancelBody a s).state).busRead = s.busRead ∧ ((cancelBody a s).state).freeCount = s.freeCount ∧
    ((cancelBody a s).state).params = s.params ∧ (∀ b₁, ((cancelBody a s).state).indexOf b₁ = s.indexOf b₁) := by
  unfold cancelBody; try dsimp only
  (repeat' split) <;> simp

@[simp] theorem collectBody_frame (a : Vector Word 6) (s : State) :
    ((collectBody a s).state).pending = s.pending ∧ ((collectBody a s).state).port = s.port ∧
    ((collectBody a s).state).index = s.index ∧ ((collectBody a s).state).groupQueue = s.groupQueue ∧
    ((collectBody a s).state).serviceLists = s.serviceLists ∧
    ((collectBody a s).state).serviceStack = s.serviceStack ∧ ((collectBody a s).state).trunkA = s.trunkA ∧
    ((collectBody a s).state).trunkB = s.trunkB ∧ ((collectBody a s).state).changeFlags = s.changeFlags ∧
    ((collectBody a s).state).seenMarks = s.seenMarks ∧ ((collectBody a s).state).enableMask = s.enableMask ∧
    ((collectBody a s).state).interruptLine = s.interruptLine ∧ ((collectBody a s).state).buffer = s.buffer ∧
    ((collectBody a s).state).busRead = s.busRead ∧ (∀ t₁, ((collectBody a s).state).trunk t₁ = s.trunk t₁) ∧
    ((collectBody a s).state).params = s.params ∧ (∀ b₁, ((collectBody a s).state).indexOf b₁ = s.indexOf b₁) ∧
    (∀ r₁, ((collectBody a s).state).station r₁ = s.station r₁) := by
  unfold collectBody; try dsimp only
  (repeat' split) <;> simp

@[simp] theorem claimBody_frame (a : Vector Word 6) (s : State) :
    ((claimBody a s).state).pending = s.pending ∧ ((claimBody a s).state).port = s.port ∧
    ((claimBody a s).state).index = s.index ∧ ((claimBody a s).state).groupQueue = s.groupQueue ∧
    ((claimBody a s).state).serviceLists = s.serviceLists ∧
    ((claimBody a s).state).serviceStack = s.serviceStack ∧ ((claimBody a s).state).trunkA = s.trunkA ∧
    ((claimBody a s).state).trunkB = s.trunkB ∧ ((claimBody a s).state).completions = s.completions ∧
    ((claimBody a s).state).changeFlags = s.changeFlags ∧ ((claimBody a s).state).seenMarks = s.seenMarks ∧
    ((claimBody a s).state).enableMask = s.enableMask ∧
    ((claimBody a s).state).interruptLine = s.interruptLine ∧ ((claimBody a s).state).buffer = s.buffer ∧
    ((claimBody a s).state).busRead = s.busRead ∧ ((claimBody a s).state).freeCount = s.freeCount ∧
    (∀ t₁, ((claimBody a s).state).trunk t₁ = s.trunk t₁) ∧ ((claimBody a s).state).params = s.params ∧
    (∀ b₁, ((claimBody a s).state).indexOf b₁ = s.indexOf b₁) ∧
    (∀ r₁, ((claimBody a s).state).station r₁ = s.station r₁) := by
  unfold claimBody; try dsimp only
  (repeat' split) <;> simp

@[simp] theorem unclaimBody_frame (a : Vector Word 6) (s : State) :
    ((unclaimBody a s).state).pending = s.pending ∧ ((unclaimBody a s).state).port = s.port ∧
    ((unclaimBody a s).state).index = s.index ∧ ((unclaimBody a s).state).groupQueue = s.groupQueue ∧
    ((unclaimBody a s).state).serviceLists = s.serviceLists ∧
    ((unclaimBody a s).state).serviceStack = s.serviceStack ∧ ((unclaimBody a s).state).trunkA = s.trunkA ∧
    ((unclaimBody a s).state).trunkB = s.trunkB ∧ ((unclaimBody a s).state).completions = s.completions ∧
    ((unclaimBody a s).state).changeFlags = s.changeFlags ∧ ((unclaimBody a s).state).seenMarks = s.seenMarks ∧
    ((unclaimBody a s).state).enableMask = s.enableMask ∧
    ((unclaimBody a s).state).interruptLine = s.interruptLine ∧ ((unclaimBody a s).state).buffer = s.buffer ∧
    ((unclaimBody a s).state).busRead = s.busRead ∧ ((unclaimBody a s).state).freeCount = s.freeCount ∧
    (∀ t₁, ((unclaimBody a s).state).trunk t₁ = s.trunk t₁) ∧ ((unclaimBody a s).state).params = s.params ∧
    (∀ b₁, ((unclaimBody a s).state).indexOf b₁ = s.indexOf b₁) ∧
    (∀ r₁, ((unclaimBody a s).state).station r₁ = s.station r₁) := by
  unfold unclaimBody; try dsimp only
  (repeat' split) <;> simp

@[simp] theorem endServiceBody_frame (a : Vector Word 6) (s : State) :
    ((endServiceBody a s).state).pending = s.pending ∧ ((endServiceBody a s).state).port = s.port ∧
    ((endServiceBody a s).state).index = s.index ∧ ((endServiceBody a s).state).slots = s.slots ∧
    ((endServiceBody a s).state).groupQueue = s.groupQueue ∧ ((endServiceBody a s).state).trunkA = s.trunkA ∧
    ((endServiceBody a s).state).trunkB = s.trunkB ∧ ((endServiceBody a s).state).completions = s.completions ∧
    ((endServiceBody a s).state).changeFlags = s.changeFlags ∧
    ((endServiceBody a s).state).seenMarks = s.seenMarks ∧
    ((endServiceBody a s).state).enableMask = s.enableMask ∧
    ((endServiceBody a s).state).interruptLine = s.interruptLine ∧
    ((endServiceBody a s).state).buffer = s.buffer ∧ ((endServiceBody a s).state).busRead = s.busRead ∧
    ((endServiceBody a s).state).freeCount = s.freeCount ∧
    (∀ n₁, ((endServiceBody a s).state).slot n₁ = s.slot n₁) ∧
    (∀ t₁, ((endServiceBody a s).state).trunk t₁ = s.trunk t₁) ∧
    ((endServiceBody a s).state).params = s.params ∧
    (∀ b₁, ((endServiceBody a s).state).indexOf b₁ = s.indexOf b₁) := by
  unfold endServiceBody; try dsimp only
  (repeat' split) <;> simp [State.slot, State.trunk, State.params, State.indexOf]

@[simp] theorem trunkEnableBody_frame (a : Vector Word 6) (s : State) :
    ((trunkEnableBody a s).state).pending = s.pending ∧ ((trunkEnableBody a s).state).port = s.port ∧
    ((trunkEnableBody a s).state).index = s.index ∧ ((trunkEnableBody a s).state).slots = s.slots ∧
    ((trunkEnableBody a s).state).groupQueue = s.groupQueue ∧
    ((trunkEnableBody a s).state).serviceLists = s.serviceLists ∧
    ((trunkEnableBody a s).state).serviceStack = s.serviceStack ∧
    ((trunkEnableBody a s).state).completions = s.completions ∧
    ((trunkEnableBody a s).state).changeFlags = s.changeFlags ∧
    ((trunkEnableBody a s).state).seenMarks = s.seenMarks ∧
    ((trunkEnableBody a s).state).enableMask = s.enableMask ∧
    ((trunkEnableBody a s).state).interruptLine = s.interruptLine ∧
    ((trunkEnableBody a s).state).buffer = s.buffer ∧ ((trunkEnableBody a s).state).busRead = s.busRead ∧
    ((trunkEnableBody a s).state).freeCount = s.freeCount ∧
    (∀ n₁, ((trunkEnableBody a s).state).slot n₁ = s.slot n₁) ∧
    ((trunkEnableBody a s).state).params = s.params ∧
    (∀ b₁, ((trunkEnableBody a s).state).indexOf b₁ = s.indexOf b₁) ∧
    (∀ r₁, ((trunkEnableBody a s).state).station r₁ = s.station r₁) := by
  unfold trunkEnableBody; try dsimp only
  (repeat' split) <;> simp

@[simp] theorem trunkDisableBody_frame (a : Vector Word 6) (s : State) :
    ((trunkDisableBody a s).state).pending = s.pending ∧ ((trunkDisableBody a s).state).port = s.port ∧
    ((trunkDisableBody a s).state).serviceStack = s.serviceStack ∧
    ((trunkDisableBody a s).state).enableMask = s.enableMask ∧
    ((trunkDisableBody a s).state).interruptLine = s.interruptLine ∧
    ((trunkDisableBody a s).state).buffer = s.buffer ∧ ((trunkDisableBody a s).state).busRead = s.busRead ∧
    ((trunkDisableBody a s).state).freeCount = s.freeCount ∧ ((trunkDisableBody a s).state).params = s.params := by
  unfold trunkDisableBody; try dsimp only
  (repeat' split) <;> simp

@[simp] theorem trunkTestBody_frame (a : Vector Word 6) (s : State) :
    ((trunkTestBody a s).state).pending = s.pending ∧ ((trunkTestBody a s).state).port = s.port ∧
    ((trunkTestBody a s).state).index = s.index ∧ ((trunkTestBody a s).state).slots = s.slots ∧
    ((trunkTestBody a s).state).groupQueue = s.groupQueue ∧
    ((trunkTestBody a s).state).serviceLists = s.serviceLists ∧
    ((trunkTestBody a s).state).serviceStack = s.serviceStack ∧
    ((trunkTestBody a s).state).completions = s.completions ∧
    ((trunkTestBody a s).state).changeFlags = s.changeFlags ∧
    ((trunkTestBody a s).state).seenMarks = s.seenMarks ∧
    ((trunkTestBody a s).state).enableMask = s.enableMask ∧
    ((trunkTestBody a s).state).interruptLine = s.interruptLine ∧
    ((trunkTestBody a s).state).buffer = s.buffer ∧ ((trunkTestBody a s).state).busRead = s.busRead ∧
    ((trunkTestBody a s).state).freeCount = s.freeCount ∧
    (∀ n₁, ((trunkTestBody a s).state).slot n₁ = s.slot n₁) ∧ ((trunkTestBody a s).state).params = s.params ∧
    (∀ b₁, ((trunkTestBody a s).state).indexOf b₁ = s.indexOf b₁) ∧
    (∀ r₁, ((trunkTestBody a s).state).station r₁ = s.station r₁) := by
  unfold trunkTestBody; try dsimp only
  (repeat' split) <;> simp

@[simp] theorem setParamBody_frame (a : Vector Word 6) (s : State) :
    ((setParamBody a s).state).pending = s.pending ∧ ((setParamBody a s).state).index = s.index ∧
    ((setParamBody a s).state).slots = s.slots ∧ ((setParamBody a s).state).groupQueue = s.groupQueue ∧
    ((setParamBody a s).state).serviceLists = s.serviceLists ∧
    ((setParamBody a s).state).serviceStack = s.serviceStack ∧ ((setParamBody a s).state).trunkA = s.trunkA ∧
    ((setParamBody a s).state).trunkB = s.trunkB ∧ ((setParamBody a s).state).completions = s.completions ∧
    ((setParamBody a s).state).changeFlags = s.changeFlags ∧
    ((setParamBody a s).state).seenMarks = s.seenMarks ∧ ((setParamBody a s).state).enableMask = s.enableMask ∧
    ((setParamBody a s).state).interruptLine = s.interruptLine ∧ ((setParamBody a s).state).buffer = s.buffer ∧
    ((setParamBody a s).state).busRead = s.busRead ∧ ((setParamBody a s).state).freeCount = s.freeCount ∧
    (∀ n₁, ((setParamBody a s).state).slot n₁ = s.slot n₁) ∧
    (∀ t₁, ((setParamBody a s).state).trunk t₁ = s.trunk t₁) ∧
    (∀ b₁, ((setParamBody a s).state).indexOf b₁ = s.indexOf b₁) ∧
    (∀ r₁, ((setParamBody a s).state).station r₁ = s.station r₁) := by
  unfold setParamBody; try dsimp only
  (repeat' split) <;> simp [State.slot, State.trunk, State.params, State.indexOf, State.station]

@[simp] theorem getParamBody_frame (a : Vector Word 6) (s : State) :
    ((getParamBody a s).state).pending = s.pending ∧ ((getParamBody a s).state).port = s.port ∧
    ((getParamBody a s).state).index = s.index ∧ ((getParamBody a s).state).slots = s.slots ∧
    ((getParamBody a s).state).groupQueue = s.groupQueue ∧
    ((getParamBody a s).state).serviceLists = s.serviceLists ∧
    ((getParamBody a s).state).serviceStack = s.serviceStack ∧ ((getParamBody a s).state).trunkA = s.trunkA ∧
    ((getParamBody a s).state).trunkB = s.trunkB ∧ ((getParamBody a s).state).completions = s.completions ∧
    ((getParamBody a s).state).changeFlags = s.changeFlags ∧
    ((getParamBody a s).state).seenMarks = s.seenMarks ∧ ((getParamBody a s).state).enableMask = s.enableMask ∧
    ((getParamBody a s).state).interruptLine = s.interruptLine ∧ ((getParamBody a s).state).buffer = s.buffer ∧
    ((getParamBody a s).state).busRead = s.busRead ∧ ((getParamBody a s).state).freeCount = s.freeCount ∧
    (∀ n₁, ((getParamBody a s).state).slot n₁ = s.slot n₁) ∧
    (∀ t₁, ((getParamBody a s).state).trunk t₁ = s.trunk t₁) ∧ ((getParamBody a s).state).params = s.params ∧
    (∀ b₁, ((getParamBody a s).state).indexOf b₁ = s.indexOf b₁) ∧
    (∀ r₁, ((getParamBody a s).state).station r₁ = s.station r₁) := by
  unfold getParamBody; try dsimp only
  (repeat' split) <;> simp

end Sys2Proof.Machine
end

