-- ==== Sys2Proof/Laws/Events.lean ====
section
/-! SUPPORT. What the host's accesses and the events of timers and trunks leave alone. -/

namespace Sys2Proof.Machine

@[simp] theorem writeCommandWord_frame (s : State) (v : Word) :
    (writeCommandWord s v).pending = s.pending ∧ (writeCommandWord s v).index = s.index ∧
    (writeCommandWord s v).slots = s.slots ∧ (writeCommandWord s v).groupQueue = s.groupQueue ∧
    (writeCommandWord s v).serviceLists = s.serviceLists ∧
    (writeCommandWord s v).serviceStack = s.serviceStack ∧ (writeCommandWord s v).trunkA = s.trunkA ∧
    (writeCommandWord s v).trunkB = s.trunkB ∧ (writeCommandWord s v).completions = s.completions ∧
    (writeCommandWord s v).changeFlags = s.changeFlags ∧ (writeCommandWord s v).seenMarks = s.seenMarks ∧
    (writeCommandWord s v).enableMask = s.enableMask ∧ (writeCommandWord s v).interruptLine = s.interruptLine ∧
    (writeCommandWord s v).buffer = s.buffer ∧ (writeCommandWord s v).busRead = s.busRead ∧
    (writeCommandWord s v).freeCount = s.freeCount ∧ (∀ n₁, (writeCommandWord s v).slot n₁ = s.slot n₁) ∧
    (∀ t₁, (writeCommandWord s v).trunk t₁ = s.trunk t₁) ∧
    (∀ b₁, (writeCommandWord s v).indexOf b₁ = s.indexOf b₁) ∧
    (∀ r₁, (writeCommandWord s v).station r₁ = s.station r₁) := by
  unfold writeCommandWord acceptCommand
  split <;> simp [State.slot, State.trunk, State.indexOf, State.station]

@[simp] theorem writeStatusWord_frame (s : State) (v : Word) :
    (writeStatusWord s v).pending = s.pending ∧ (writeStatusWord s v).index = s.index ∧
    (writeStatusWord s v).slots = s.slots ∧ (writeStatusWord s v).groupQueue = s.groupQueue ∧
    (writeStatusWord s v).serviceLists = s.serviceLists ∧ (writeStatusWord s v).serviceStack = s.serviceStack ∧
    (writeStatusWord s v).trunkA = s.trunkA ∧ (writeStatusWord s v).trunkB = s.trunkB ∧
    (writeStatusWord s v).completions = s.completions ∧ (writeStatusWord s v).changeFlags = s.changeFlags ∧
    (writeStatusWord s v).seenMarks = s.seenMarks ∧ (writeStatusWord s v).enableMask = s.enableMask ∧
    (writeStatusWord s v).interruptLine = s.interruptLine ∧ (writeStatusWord s v).buffer = s.buffer ∧
    (writeStatusWord s v).busRead = s.busRead ∧ (writeStatusWord s v).freeCount = s.freeCount ∧
    (∀ n₁, (writeStatusWord s v).slot n₁ = s.slot n₁) ∧ (∀ t₁, (writeStatusWord s v).trunk t₁ = s.trunk t₁) ∧
    (∀ b₁, (writeStatusWord s v).indexOf b₁ = s.indexOf b₁) ∧
    (∀ r₁, (writeStatusWord s v).station r₁ = s.station r₁) := by
  unfold writeStatusWord; try dsimp only
  (repeat' split) <;> simp [State.slot, State.trunk, State.indexOf, State.station]

@[simp] theorem writeChangeWord_frame (s : State) (k : Fin 4) (v : Word) :
    (writeChangeWord s k v).pending = s.pending ∧ (writeChangeWord s k v).port = s.port ∧
    (writeChangeWord s k v).index = s.index ∧ (writeChangeWord s k v).slots = s.slots ∧
    (writeChangeWord s k v).groupQueue = s.groupQueue ∧ (writeChangeWord s k v).serviceLists = s.serviceLists ∧
    (writeChangeWord s k v).serviceStack = s.serviceStack ∧ (writeChangeWord s k v).trunkA = s.trunkA ∧
    (writeChangeWord s k v).trunkB = s.trunkB ∧ (writeChangeWord s k v).completions = s.completions ∧
    (writeChangeWord s k v).enableMask = s.enableMask ∧
    (writeChangeWord s k v).interruptLine = s.interruptLine ∧ (writeChangeWord s k v).buffer = s.buffer ∧
    (writeChangeWord s k v).busRead = s.busRead ∧ (writeChangeWord s k v).freeCount = s.freeCount ∧
    (∀ n₁, (writeChangeWord s k v).slot n₁ = s.slot n₁) ∧
    (∀ t₁, (writeChangeWord s k v).trunk t₁ = s.trunk t₁) ∧ (writeChangeWord s k v).params = s.params ∧
    (∀ b₁, (writeChangeWord s k v).indexOf b₁ = s.indexOf b₁) ∧
    (∀ r₁, (writeChangeWord s k v).station r₁ = s.station r₁) := by
  unfold writeChangeWord; try dsimp only
  simp [State.slot, State.trunk, State.params, State.indexOf, State.station]

@[simp] theorem writeTrunkEventWord_frame (s : State) (v : Word) :
    (writeTrunkEventWord s v).pending = s.pending ∧ (writeTrunkEventWord s v).port = s.port ∧
    (writeTrunkEventWord s v).index = s.index ∧ (writeTrunkEventWord s v).slots = s.slots ∧
    (writeTrunkEventWord s v).groupQueue = s.groupQueue ∧
    (writeTrunkEventWord s v).serviceLists = s.serviceLists ∧
    (writeTrunkEventWord s v).serviceStack = s.serviceStack ∧
    (writeTrunkEventWord s v).completions = s.completions ∧
    (writeTrunkEventWord s v).changeFlags = s.changeFlags ∧ (writeTrunkEventWord s v).seenMarks = s.seenMarks ∧
    (writeTrunkEventWord s v).enableMask = s.enableMask ∧
    (writeTrunkEventWord s v).interruptLine = s.interruptLine ∧ (writeTrunkEventWord s v).buffer = s.buffer ∧
    (writeTrunkEventWord s v).busRead = s.busRead ∧ (writeTrunkEventWord s v).freeCount = s.freeCount ∧
    (∀ n₁, (writeTrunkEventWord s v).slot n₁ = s.slot n₁) ∧ (writeTrunkEventWord s v).params = s.params ∧
    (∀ b₁, (writeTrunkEventWord s v).indexOf b₁ = s.indexOf b₁) ∧
    (∀ r₁, (writeTrunkEventWord s v).station r₁ = s.station r₁) := by
  unfold writeTrunkEventWord; try dsimp only
  simp

@[simp] theorem writeEnableMask_frame (s : State) (v : Word) :
    (writeEnableMask s v).pending = s.pending ∧ (writeEnableMask s v).port = s.port ∧
    (writeEnableMask s v).index = s.index ∧ (writeEnableMask s v).slots = s.slots ∧
    (writeEnableMask s v).groupQueue = s.groupQueue ∧ (writeEnableMask s v).serviceLists = s.serviceLists ∧
    (writeEnableMask s v).serviceStack = s.serviceStack ∧ (writeEnableMask s v).trunkA = s.trunkA ∧
    (writeEnableMask s v).trunkB = s.trunkB ∧ (writeEnableMask s v).completions = s.completions ∧
    (writeEnableMask s v).changeFlags = s.changeFlags ∧ (writeEnableMask s v).seenMarks = s.seenMarks ∧
    (writeEnableMask s v).interruptLine = s.interruptLine ∧ (writeEnableMask s v).buffer = s.buffer ∧
    (writeEnableMask s v).busRead = s.busRead ∧ (writeEnableMask s v).freeCount = s.freeCount ∧
    (∀ n₁, (writeEnableMask s v).slot n₁ = s.slot n₁) ∧ (∀ t₁, (writeEnableMask s v).trunk t₁ = s.trunk t₁) ∧
    (writeEnableMask s v).params = s.params ∧ (∀ b₁, (writeEnableMask s v).indexOf b₁ = s.indexOf b₁) ∧
    (∀ r₁, (writeEnableMask s v).station r₁ = s.station r₁) := by
  unfold writeEnableMask; try dsimp only
  simp [State.slot, State.trunk, State.params, State.indexOf, State.station]

@[simp] theorem writeArgument_frame (s : State) (k : Fin 6) (v : Word) :
    (writeArgument s k v).pending = s.pending ∧ (writeArgument s k v).index = s.index ∧
    (writeArgument s k v).slots = s.slots ∧ (writeArgument s k v).groupQueue = s.groupQueue ∧
    (writeArgument s k v).serviceLists = s.serviceLists ∧ (writeArgument s k v).serviceStack = s.serviceStack ∧
    (writeArgument s k v).trunkA = s.trunkA ∧ (writeArgument s k v).trunkB = s.trunkB ∧
    (writeArgument s k v).completions = s.completions ∧ (writeArgument s k v).changeFlags = s.changeFlags ∧
    (writeArgument s k v).seenMarks = s.seenMarks ∧ (writeArgument s k v).enableMask = s.enableMask ∧
    (writeArgument s k v).interruptLine = s.interruptLine ∧ (writeArgument s k v).buffer = s.buffer ∧
    (writeArgument s k v).busRead = s.busRead ∧ (writeArgument s k v).freeCount = s.freeCount ∧
    (∀ n₁, (writeArgument s k v).slot n₁ = s.slot n₁) ∧ (∀ t₁, (writeArgument s k v).trunk t₁ = s.trunk t₁) ∧
    (∀ b₁, (writeArgument s k v).indexOf b₁ = s.indexOf b₁) ∧
    (∀ r₁, (writeArgument s k v).station r₁ = s.station r₁) := by
  unfold writeArgument; try dsimp only
  simp [State.slot, State.trunk, State.indexOf, State.station]

@[simp] theorem finishEcho_frame (s : State) (e : EchoTest) :
    (finishEcho s e).pending = s.pending ∧ (finishEcho s e).stations = s.stations ∧
    (finishEcho s e).index = s.index ∧
    (finishEcho s e).slots = s.slots ∧ (finishEcho s e).groupQueue = s.groupQueue ∧
    (finishEcho s e).serviceLists = s.serviceLists ∧ (finishEcho s e).serviceStack = s.serviceStack ∧
    (finishEcho s e).trunkA = s.trunkA ∧ (finishEcho s e).trunkB = s.trunkB ∧
    (finishEcho s e).completions = s.completions ∧ (finishEcho s e).changeFlags = s.changeFlags ∧
    (finishEcho s e).seenMarks = s.seenMarks ∧ (finishEcho s e).enableMask = s.enableMask ∧
    (finishEcho s e).interruptLine = s.interruptLine ∧ (finishEcho s e).buffer = s.buffer ∧
    (finishEcho s e).busRead = s.busRead ∧ (finishEcho s e).freeCount = s.freeCount ∧
    (∀ n₁, (finishEcho s e).slot n₁ = s.slot n₁) ∧ (∀ t₁, (finishEcho s e).trunk t₁ = s.trunk t₁) ∧
    (∀ b₁, (finishEcho s e).indexOf b₁ = s.indexOf b₁) ∧ (∀ r₁, (finishEcho s e).station r₁ = s.station r₁) := by
  simp [finishEcho, finishCommand, State.slot, State.trunk, State.indexOf, State.station]

theorem pollExpiry_frame {s u : State} {r : RecIdx} (h : pollExpiry s r = some u) :
    u.pending = s.pending ∧ u.port = s.port ∧ u.index = s.index ∧ u.slots = s.slots ∧
    u.groupQueue = s.groupQueue ∧ u.serviceLists = s.serviceLists ∧ u.serviceStack = s.serviceStack ∧
    u.completions = s.completions ∧ u.changeFlags = s.changeFlags ∧ u.seenMarks = s.seenMarks ∧
    u.enableMask = s.enableMask ∧ u.interruptLine = s.interruptLine ∧ u.buffer = s.buffer ∧
    u.busRead = s.busRead ∧ u.freeCount = s.freeCount ∧ (∀ n₁, u.slot n₁ = s.slot n₁) ∧
    u.params = s.params ∧ (∀ b₁, u.indexOf b₁ = s.indexOf b₁) := by
  unfold pollExpiry at h; try dsimp only at h
  (repeat' split at h) <;> simp at h <;> subst h <;> simp [State.slot, State.params, State.indexOf, State.station]

theorem repeatExpiry_frame {s u : State} {n : SlotIdx} (h : repeatExpiry s n = some u) :
    u.pending = s.pending ∧ u.port = s.port ∧ u.index = s.index ∧ u.groupQueue = s.groupQueue ∧
    u.serviceLists = s.serviceLists ∧ u.serviceStack = s.serviceStack ∧ u.trunkA = s.trunkA ∧
    u.trunkB = s.trunkB ∧ u.completions = s.completions ∧ u.changeFlags = s.changeFlags ∧
    u.seenMarks = s.seenMarks ∧ u.enableMask = s.enableMask ∧ u.interruptLine = s.interruptLine ∧
    u.buffer = s.buffer ∧ u.busRead = s.busRead ∧ u.freeCount = s.freeCount ∧
    (∀ t₁, u.trunk t₁ = s.trunk t₁) ∧ u.params = s.params ∧ (∀ b₁, u.indexOf b₁ = s.indexOf b₁) ∧
    (∀ r₁, u.station r₁ = s.station r₁) := by
  unfold repeatExpiry at h; try dsimp only at h
  (repeat' split at h) <;> simp at h <;> subst h <;> simp [State.slot, State.trunk, State.params, State.indexOf, State.station]

theorem periodExpiry_frame {s u : State} {n : SlotIdx} (h : periodExpiry s n = some u) :
    u.pending = s.pending ∧ u.port = s.port ∧ u.index = s.index ∧ u.groupQueue = s.groupQueue ∧
    u.serviceLists = s.serviceLists ∧ u.serviceStack = s.serviceStack ∧ u.trunkA = s.trunkA ∧
    u.trunkB = s.trunkB ∧ u.completions = s.completions ∧ u.changeFlags = s.changeFlags ∧
    u.seenMarks = s.seenMarks ∧ u.enableMask = s.enableMask ∧ u.interruptLine = s.interruptLine ∧
    u.buffer = s.buffer ∧ u.busRead = s.busRead ∧ u.freeCount = s.freeCount ∧
    (∀ t₁, u.trunk t₁ = s.trunk t₁) ∧ u.params = s.params ∧ (∀ b₁, u.indexOf b₁ = s.indexOf b₁) := by
  unfold periodExpiry at h; try dsimp only at h
  (repeat' split at h) <;> simp at h <;> subst h <;> simp [State.slot, State.trunk, State.params, State.indexOf]

theorem resyncWaitEnd_frame {s u : State} {r : RecIdx} (h : resyncWaitEnd s r = some u) :
    u.pending = s.pending ∧ u.port = s.port ∧ u.index = s.index ∧ u.slots = s.slots ∧
    u.groupQueue = s.groupQueue ∧ u.serviceLists = s.serviceLists ∧ u.serviceStack = s.serviceStack ∧
    u.completions = s.completions ∧ u.changeFlags = s.changeFlags ∧ u.seenMarks = s.seenMarks ∧
    u.enableMask = s.enableMask ∧ u.interruptLine = s.interruptLine ∧ u.buffer = s.buffer ∧
    u.busRead = s.busRead ∧ u.freeCount = s.freeCount ∧ (∀ n₁, u.slot n₁ = s.slot n₁) ∧
    u.params = s.params ∧ (∀ b₁, u.indexOf b₁ = s.indexOf b₁) := by
  unfold resyncWaitEnd at h; try dsimp only at h
  (repeat' split at h) <;> simp at h <;> subst h <;> simp [State.slot, State.params, State.indexOf]

theorem windowExpiry_frame {s u : State} {t : TrunkId} (h : windowExpiry s t = some u) :
    u.pending = s.pending ∧ u.port = s.port ∧ u.serviceStack = s.serviceStack ∧
    u.enableMask = s.enableMask ∧ u.interruptLine = s.interruptLine ∧ u.busRead = s.busRead ∧
    u.freeCount = s.freeCount ∧ u.params = s.params := by
  unfold windowExpiry at h; try dsimp only at h
  (repeat' split at h) <;> simp at h <;> subst h <;> simp [State.params]

theorem guardExpiry_frame {s u : State} {t : TrunkId} (h : guardExpiry s t = some u) :
    u.pending = s.pending ∧ u.port = s.port ∧ u.index = s.index ∧ u.slots = s.slots ∧
    u.groupQueue = s.groupQueue ∧ u.serviceLists = s.serviceLists ∧ u.serviceStack = s.serviceStack ∧
    u.completions = s.completions ∧ u.changeFlags = s.changeFlags ∧ u.seenMarks = s.seenMarks ∧
    u.enableMask = s.enableMask ∧ u.interruptLine = s.interruptLine ∧ u.buffer = s.buffer ∧
    u.busRead = s.busRead ∧ u.freeCount = s.freeCount ∧ (∀ n₁, u.slot n₁ = s.slot n₁) ∧
    u.params = s.params ∧ (∀ b₁, u.indexOf b₁ = s.indexOf b₁) ∧ (∀ r₁, u.station r₁ = s.station r₁) := by
  unfold guardExpiry at h; try dsimp only at h
  (repeat' split at h) <;> simp at h <;> subst h <;> simp [State.slot, State.params, State.indexOf, State.station]

theorem holdExpiry_frame {s u : State} {t : TrunkId} (h : holdExpiry s t = some u) :
    u.pending = s.pending ∧ u.port = s.port ∧ u.serviceStack = s.serviceStack ∧
    u.enableMask = s.enableMask ∧ u.interruptLine = s.interruptLine ∧ u.buffer = s.buffer ∧
    u.busRead = s.busRead ∧ u.freeCount = s.freeCount ∧ u.params = s.params := by
  unfold holdExpiry at h; try dsimp only at h
  (repeat' split at h) <;> simp at h <;> subst h <;> simp [State.params]

theorem listenExpiry_frame {s u : State} {t : TrunkId} (h : listenExpiry s t = some u) :
    u.pending = s.pending ∧ u.index = s.index ∧ u.slots = s.slots ∧ u.groupQueue = s.groupQueue ∧
    u.serviceLists = s.serviceLists ∧ u.serviceStack = s.serviceStack ∧ u.trunkA = s.trunkA ∧
    u.trunkB = s.trunkB ∧ u.completions = s.completions ∧ u.changeFlags = s.changeFlags ∧
    u.seenMarks = s.seenMarks ∧ u.enableMask = s.enableMask ∧ u.interruptLine = s.interruptLine ∧
    u.buffer = s.buffer ∧ u.busRead = s.busRead ∧ u.freeCount = s.freeCount ∧
    (∀ n₁, u.slot n₁ = s.slot n₁) ∧ (∀ t₁, u.trunk t₁ = s.trunk t₁) ∧
    (∀ b₁, u.indexOf b₁ = s.indexOf b₁) ∧ (∀ r₁, u.station r₁ = s.station r₁) := by
  unfold listenExpiry at h; try dsimp only at h
  (repeat' split at h) <;> simp at h <;> subst h <;> simp

theorem takeOffer_frame {s u : State} {t : TrunkId} (h : takeOffer s t = some u) :
    u.pending = s.pending ∧ u.port = s.port ∧ u.index = s.index ∧ u.groupQueue = s.groupQueue ∧
    u.serviceLists = s.serviceLists ∧ u.serviceStack = s.serviceStack ∧ u.completions = s.completions ∧
    u.changeFlags = s.changeFlags ∧ u.seenMarks = s.seenMarks ∧ u.enableMask = s.enableMask ∧
    u.interruptLine = s.interruptLine ∧ u.buffer = s.buffer ∧ u.busRead = s.busRead ∧
    u.freeCount = s.freeCount ∧ u.params = s.params ∧ (∀ b₁, u.indexOf b₁ = s.indexOf b₁) ∧
    (∀ r₁, u.station r₁ = s.station r₁) := by
  unfold takeOffer at h
  simp at h
  obtain ⟨src, o, _, rfl⟩ := h
  simp

theorem transmissionEnd_frame {s u : State} {t : TrunkId} (h : transmissionEnd s t = some u) :
    u.pending = s.pending ∧ u.index = s.index ∧ u.serviceLists = s.serviceLists ∧
    u.serviceStack = s.serviceStack ∧ u.changeFlags = s.changeFlags ∧ u.seenMarks = s.seenMarks ∧
    u.enableMask = s.enableMask ∧ u.interruptLine = s.interruptLine ∧ u.buffer = s.buffer ∧
    u.busRead = s.busRead ∧ u.freeCount = s.freeCount ∧ (∀ b₁, u.indexOf b₁ = s.indexOf b₁) := by
  unfold transmissionEnd at h; try dsimp only at h
  (repeat' split at h) <;> simp at h <;> subst h <;> simp [State.indexOf]

theorem gapTimeout_frame {s u : State} {t : TrunkId} (h : gapTimeout s t = some u) :
    u.pending = s.pending ∧ u.port = s.port ∧ u.serviceStack = s.serviceStack ∧
    u.enableMask = s.enableMask ∧ u.interruptLine = s.interruptLine ∧ u.busRead = s.busRead ∧
    u.freeCount = s.freeCount ∧ u.params = s.params := by
  unfold gapTimeout at h; try dsimp only at h
  (repeat' split at h) <;> simp at h <;> subst h <;> simp [State.params]

theorem takeLoopback_frame {s u : State} {t : TrunkId} {c : RxChar} (h : takeLoopback s t c = some u) :
    u.pending = s.pending ∧ u.index = s.index ∧ u.slots = s.slots ∧ u.groupQueue = s.groupQueue ∧
    u.serviceLists = s.serviceLists ∧ u.serviceStack = s.serviceStack ∧ u.trunkA = s.trunkA ∧
    u.trunkB = s.trunkB ∧ u.completions = s.completions ∧ u.changeFlags = s.changeFlags ∧
    u.seenMarks = s.seenMarks ∧ u.enableMask = s.enableMask ∧ u.interruptLine = s.interruptLine ∧
    u.buffer = s.buffer ∧ u.busRead = s.busRead ∧ u.freeCount = s.freeCount ∧
    (∀ n₁, u.slot n₁ = s.slot n₁) ∧ (∀ t₁, u.trunk t₁ = s.trunk t₁) ∧
    (∀ b₁, u.indexOf b₁ = s.indexOf b₁) ∧ (∀ r₁, u.station r₁ = s.station r₁) := by
  unfold takeLoopback at h; try dsimp only at h
  (repeat' split at h) <;> simp at h <;> subst h <;>
    first | (simp; done) | simp [State.slot, State.trunk, State.indexOf, State.station]

theorem changeLevel_frame {s u : State} {t : TrunkId} {idle : Bool} {lead : Nat} (h : changeLevel s t idle lead = some u) :
    u.pending = s.pending ∧ u.port = s.port ∧ u.index = s.index ∧ u.slots = s.slots ∧
    u.groupQueue = s.groupQueue ∧ u.serviceLists = s.serviceLists ∧ u.serviceStack = s.serviceStack ∧
    u.completions = s.completions ∧ u.changeFlags = s.changeFlags ∧ u.seenMarks = s.seenMarks ∧
    u.enableMask = s.enableMask ∧ u.interruptLine = s.interruptLine ∧ u.buffer = s.buffer ∧
    u.busRead = s.busRead ∧ u.freeCount = s.freeCount ∧ (∀ n₁, u.slot n₁ = s.slot n₁) ∧
    u.params = s.params ∧ (∀ b₁, u.indexOf b₁ = s.indexOf b₁) ∧ (∀ r₁, u.station r₁ = s.station r₁) := by
  unfold changeLevel at h; try dsimp only at h
  (repeat' split at h) <;> simp at h <;> subst h <;> simp [State.slot, State.trunk, State.params, State.indexOf, State.station]

theorem releaseReset_frame {s u : State}  (h : releaseReset s = some u) :
    u.pending = s.pending ∧ u.index = s.index ∧ u.slots = s.slots ∧ u.groupQueue = s.groupQueue ∧
    u.serviceLists = s.serviceLists ∧ u.serviceStack = s.serviceStack ∧ u.trunkA = s.trunkA ∧
    u.trunkB = s.trunkB ∧ u.completions = s.completions ∧ u.changeFlags = s.changeFlags ∧
    u.seenMarks = s.seenMarks ∧ u.enableMask = s.enableMask ∧ u.interruptLine = s.interruptLine ∧
    u.buffer = s.buffer ∧ u.busRead = s.busRead ∧ u.freeCount = s.freeCount ∧
    (∀ n₁, u.slot n₁ = s.slot n₁) ∧ (∀ t₁, u.trunk t₁ = s.trunk t₁) ∧
    (∀ b₁, u.indexOf b₁ = s.indexOf b₁) ∧ (∀ r₁, u.station r₁ = s.station r₁) := by
  unfold releaseReset at h; try dsimp only at h
  (repeat' split at h) <;> simp at h <;> subst h <;> simp [State.slot, State.trunk, State.indexOf, State.station]

theorem endClear_frame {s u : State}  (h : endClear s = some u) :
    u.pending = s.pending ∧ u.index = s.index ∧ u.slots = s.slots ∧ u.groupQueue = s.groupQueue ∧
    u.serviceLists = s.serviceLists ∧ u.serviceStack = s.serviceStack ∧ u.trunkA = s.trunkA ∧
    u.trunkB = s.trunkB ∧ u.completions = s.completions ∧ u.changeFlags = s.changeFlags ∧
    u.seenMarks = s.seenMarks ∧ u.enableMask = s.enableMask ∧ u.interruptLine = s.interruptLine ∧
    u.busRead = s.busRead ∧ u.freeCount = s.freeCount ∧ (∀ n₁, u.slot n₁ = s.slot n₁) ∧
    (∀ t₁, u.trunk t₁ = s.trunk t₁) ∧ (∀ b₁, u.indexOf b₁ = s.indexOf b₁) ∧
    (∀ r₁, u.station r₁ = s.station r₁) := by
  unfold endClear at h; try dsimp only at h
  (repeat' split at h) <;> simp at h <;> subst h <;> simp [State.slot, State.trunk, State.indexOf, State.station]

end Sys2Proof.Machine
end

