-- ==== Sys2Proof/Laws/Specs.lean ====
section
/-! SUPPORT. What each shared operation does, once for each: how an accepted command ends, what a handle and a slot
number name, and the characters a trunk receives. -/

namespace Sys2Proof.Machine

/-! ### Commands of the port -/

theorem executing_of_accepted {s : State} {code : Nat} (h : Accepted s code) : executing s code = true := by
  obtain ⟨hs, hc, he, hd⟩ := h
  simpa [executing, hs, hc, he] using hd

/-- No command but ECHO runs before a tick boundary has passed since its acceptance (R182). -/
theorem executing_waits {s : State} {code : Nat} (hd : s.port.due = false) (hc : code ≠ 18) : executing s code = false := by
  simp [executing, hd, hc]

/-- An accepted command answers the end its block's effect comes to (R182). -/
theorem runCommand_of_accepted {code : Nat} {body : Vector Word 6 → State → CmdResult} {s : State}
    (h : Accepted s code) :
    runCommand code body s = .next (settle (finishCommand (body s.port.snapshot s))) :=
  runCommand_accepted (executing_of_accepted h)

/-- The end of a command whose effect leaves the port alone (R182). -/
theorem ends_of_port {s u : State} (hp : u.port = s.port) (c : ResultCode) (values : List Word) :
    Ends s (settle (finishCommand ⟨u, c, values⟩)) c values := by
  refine ⟨?_, rfl⟩
  simp [settle, finishCommand, valueWords, hp]

/-- A command whose body refuses is refused (R182). -/
theorem refused_of_body {i : Instr} {code : Nat} {body : Vector Word 6 → State → CmdResult} {s : State}
    {c : ResultCode} (hi : exec i s = runCommand code body s) (h : Accepted s code)
    (hb : body s.port.snapshot s = refuse s c) : Refused i s c := by
  refine ⟨_, hi.trans (runCommand_of_accepted h), ?_, ?_⟩
  · rw [hb]; exact ends_of_port rfl c []
  · rw [hb]; rfl

/-! ### Handles and slot numbers (R2, R34) -/

theorem checkHandle_names {s : State} {h : BitVec 16} {r : RecIdx} (hn : Names s h r) : checkHandle s h = .ok r := by
  obtain ⟨h7, hr, hv, hg⟩ := hn
  have hi : handleIndex h = r := Fin.ext (by simp [handleIndex, hr])
  simp only [checkHandle, handleBit7, h7, hi, handleGeneration, hg]
  simp [hv]

/-- A handle fails R2 exactly with the code of its first failing check. -/
theorem checkHandle_error {s : State} {h : BitVec 16} :
    checkHandle s h = match firstFailure (handleChecks s h) with
      | some c => .error c
      | none => .ok (handleIndex h) := by
  cases h7 : h.getLsbD 7 <;>
    by_cases hv : (s.station (handleIndex h)).state = .vacant
      ∨ (s.station (handleIndex h)).generation ≠ h.extractLsb' 8 8 <;>
    simp only [checkHandle, handleBit7, handleGeneration, handleChecks, firstFailure, h7, hv, decide_true,
      decide_false, if_true, if_false, Bool.false_eq_true]

/-- A slot number fails R34 exactly with the code of its first failing check. -/
theorem checkSlot_error {s : State} {c : ResultCode} (h : firstFailure (slotChecks s) = some c) :
    checkSlot s (argumentByte s 0 0).toNat = .error c := by
  unfold slotChecks firstFailure at h
  unfold checkSlot slotOf
  by_cases hk : 31 < (argumentByte s 0 0).toNat
  · rw [if_pos (by simpa using hk)] at h
    cases h
    rw [dif_neg (by omega)]
  · have hlt : (argumentByte s 0 0).toNat < 32 := by omega
    rw [dif_pos hlt]
    by_cases hf : ∀ n : SlotIdx, n.val = (argumentByte s 0 0).toNat → (s.slot n).state = .free
    · have hn := hf ⟨_, hlt⟩ rfl
      rw [if_neg (by simpa using hk), firstFailure, if_pos (by simpa using hf)] at h
      cases h
      simp [hn]
    · rw [if_neg (by simpa using hk), firstFailure, if_neg (by simpa using hf)] at h
      cases h

theorem checkSlot_ok {s : State} {n : SlotIdx} (hn : n.val = (argumentByte s 0 0).toNat)
    (hf : (s.slot n).state ≠ .free) : checkSlot s (argumentByte s 0 0).toNat = .ok n := by
  unfold checkSlot slotOf
  have e : (⟨(argumentByte s 0 0).toNat, hn ▸ n.isLt⟩ : SlotIdx) = n := Fin.ext hn.symm
  rw [dif_pos (hn ▸ n.isLt)]
  simp [e, hf]

/-! ### Characters received (R148, R155, R156, R163) -/

/-- Ten bit times carry the byte that was sent (R148). -/
theorem characterOf_characterBits (v : Byte) : characterOf (characterBits v) = some ⟨v, true⟩ := by
  have h : characterBits v = [false, v.getLsbD 0, v.getLsbD 1, v.getLsbD 2, v.getLsbD 3, v.getLsbD 4, v.getLsbD 5,
      v.getLsbD 6, v.getLsbD 7, true] := rfl
  rw [h, characterOf]
  congr 2
  refine BitVec.eq_of_getLsbD_eq fun k hk => ?_
  rw [BitVec.getLsbD_ofBoolListLE]
  simp only [List.length_cons, List.length_nil] at hk
  interval_cases k <;> rfl

/-- A line that is idle gives every character (R148). -/
@[simp] theorem heard_idle (chars : List RxChar) : heard true chars = chars := by
  induction chars with
  | nil => rfl
  | cons c rest ih => simp [heard, ih]

/-- Characters without error are all given, whatever the level (R148). -/
theorem heard_good {chars : List RxChar} (idle : Bool) (h : ∀ c ∈ chars, c.stopOk = true) : heard idle chars = chars := by
  induction chars with
  | nil => rfl
  | cons c rest ih =>
    simp only [List.mem_cons, forall_eq_or_imp] at h
    simp [heard, h.1, ih h.2]

/-- A line at the non-idle level gives one character error, and nothing after it (R148). -/
theorem heard_held {good after : List RxChar} {bad : RxChar} (h : ∀ c ∈ good, c.stopOk = true) (hb : bad.stopOk = false) :
    heard false (good ++ bad :: after) = good ++ [bad] := by
  induction good with
  | nil => simp [heard, hb]
  | cons c rest ih =>
    simp only [List.mem_cons, forall_eq_or_imp] at h
    simp [heard, h.1, ih h.2]

/-- An idle line is never left held (R148). -/
@[simp] theorem holdsLine_idle (chars : List RxChar) : holdsLine true chars = false := rfl

/-- A line held at the non-idle level gives no further character (R148). -/
theorem receive_held {s : State} {t : TrunkId} (h : (s.trunk t).rxHeld = true) (chars : List RxChar) :
    receive t chars s = s := by
  simp [receive, h]

/-- No character is examined while the trunk transmits, or in TEST (R148, R166). -/
theorem receive_deaf {s : State} {t : TrunkId} (h : (s.trunk t).listens = false) (chars : List RxChar) :
    receive t chars s = s := by
  simp [receive, h]

/-- A listening trunk whose line is not held takes the characters the line gives (R148). -/
theorem receive_listening {s : State} {t : TrunkId} (hl : (s.trunk t).listens = true) (hh : (s.trunk t).rxHeld = false)
    (chars : List RxChar) :
    receive t chars s = (takeCharacters t (heard (s.trunk t).rxIdle chars) s).modTrunk t
      fun y => { y with rxHeld := holdsLine (s.trunk t).rxIdle chars } := by
  simp [receive, hl, hh]

/-- Characters that follow the beginning of a reply are the reply's (R156). -/
theorem takeCharacters_receiving {s : State} {t : TrunkId} {f : InFlight} {c : RxChar} {rest : List RxChar}
    (h : (s.trunk t).inFlight = some f) (hp : f.phase = .receiving) :
    takeCharacters t (c :: rest) s = continueReply s t f (c :: rest) := by
  simp [takeCharacters, h, hp]

/-- A character that comes while no reply is being received acts alone (R155, R159). -/
theorem takeCharacters_outside {s : State} {t : TrunkId} {c : RxChar} {rest : List RxChar}
    (h : (s.trunk t).receiving = false) :
    takeCharacters t (c :: rest) s = takeCharacters t rest (receiveOutside s t c) := by
  cases hf : (s.trunk t).inFlight with
  | none => simp [takeCharacters, hf]
  | some f =>
    have hp : f.phase ≠ .receiving := by simpa [Trunk.receiving, hf] using h
    simp [takeCharacters, hf, hp]

/-- The trunk after the character being received, if any, has ended as a stray byte (R148, R163). -/
theorem cutCharacter_trunk (s : State) (t u : TrunkId) :
    (cutCharacter s t).trunk u = if u = t ∧ (s.trunk t).rxChar = true then
      { s.trunk t with
        rxChar := false, strayCount := min 65535 ((s.trunk t).strayCount + 1)
        rxHeld := (s.trunk t).rxHeld || !(s.trunk t).rxIdle }
      else s.trunk u := by
  unfold cutCharacter
  cases h : (s.trunk t).rxChar <;> by_cases hu : u = t <;> simp [countStray, endCharacter, hu]

end Sys2Proof.Machine
end

