-- ==== Sys2Proof/WellFormed.lean ====
section
/-! DEFINITION. The well-formed commands: those whose operands are ones the row's event can carry. `exec` gives
every other command a meaning too; these checks say which row an access or an event belongs to. -/

namespace Sys2Proof

/-- A whole-word write of this word belongs to a row of its own: the command word, the overrun bit of the port
status word, the reset bit of the controller-reset word, the change words, the trunk event word, the enable
mask (Table 11-1). -/
def ownRow (off : BitVec 6) (v : Word) : Bool :=
  match off.toNat with
  | 6 | 18 | 19 | 20 | 21 | 22 | 24 => true
  | 14 => v.getLsbD 3
  | 15 => v.getLsbD 0
  | _ => false

/-- The characters are those of one reply, no more and no fewer (R156). -/
def wholeReply (chars : List RxChar) : Bool :=
  match Machine.reception chars with
  | .more => false
  | .complete n => decide (chars.length = n)
  | .badLength => decide (chars.length = 70)

/-- The operands fit the row. -/
def Instr.wf : Instr → Bool
  | .overrunClear v => v.getLsbD 3
  | .controllerReset v => v.getLsbD 0
  | .registerWrite off p v => decide (p ≠ .word) || !ownRow off v
  | .replyTaken _ chars => wholeReply chars
  | .receiveInputLevelChange _ _ lead => decide (lead ≤ 80)
  | .enrol | .find | .inspect | .modify | .hold | .resume | .retire | .move | .submit | .cancel | .collect
  | .claim | .unclaim | .endService | .trunkEnable | .trunkDisable | .trunkTest | .echo | .setParam | .getParam
  | .badCommand | .commandWriteIgnored _ | .resultCodeRead _ | .serviceAcknowledge _ | .changeWordRead _ _
  | .changeWordWrite _ _ | .trunkEventClear _ | .interruptEnableWrite _ | .strayCountRead _ _
  | .bufferWindowWrite _ _ _ | .powerOnReset | .powerOnClearEnd | .pollTimerExpiry _ | .repeatTimerExpiry _
  | .periodTimerExpiry _ | .resyncWaitExpiry _ | .replyWindowExpiry _ | .guardTimerExpiry _ | .lineHoldExpiry _
  | .arbiterTakesOffer _ | .transmissionEnd _ | .replyStart _ | .replyGapTimeout _ | .strayByte _ _
  | .loopbackCharacter _ _ | .echoListenExpiry _ | .commandWordWrite _ | .powerOnResetRelease => true

end Sys2Proof
end

