-- ==== Sys2Proof/Tests/Slice0.lean ====
section
/-! SUPPORT. Tests of the model: the operands each check of WellFormed refuses, the check sequence, one step of each
command with what the spec's rules and worked sequences give, and for each statement with hypotheses a witness that
meets them. -/

namespace Sys2Proof.Tests

set_option Elab.async false

open Sys2Proof Sys2Proof.Machine

/-! ### Small states -/

/-- The state a command leaves. -/
def after (c : Instr) (s : State) : State :=
  match exec c s with
  | .next t => t
  | .fault _ => s
  | .refused _ => s

/-- The part after the power-on clear, both trunks ONLINE. -/
def ready : State :=
  { State.reset with
    port := { Port.reset with state := .idle, clearTimer := none }
    trunkA := { Trunk.reset with state := .online }
    trunkB := { Trunk.reset with state := .online } }

/-- The port BUSY with a command code and its first four argument words, at the tick boundary after its acceptance. -/
def asked (code : Byte) (a b c d : Word) (s : State) : State :=
  { s with port := { s.port with state := .busy, command := code, snapshot := #v[a, b, c, d, 0, 0], due := true } }

/-- An ACTIVE station at address 5 of generation 2, with an alternate trunk. -/
def member : Station :=
  { Station.reset with
    address := 5, state := .active, generation := 2, altTrunk := some .b, armed := true, priority := 3
    vector := 0x40, groups := [0xF1], pollTimer := some 7 }

/-- Record 127 is the station given; its handle is 0x027F. -/
def with127 (x : Station) (s : State) : State := (s.setStation 127 x).setIndex 5 (some 127)

/-- Record 127 is ACTIVE. -/
def served : State := with127 member ready

/-- A READ of 100 bytes at offset 16 for record 127, its first 64 bytes under way. -/
def reading : Slot :=
  { Slot.reset with
    state := .active, target := 0x027F, offset := 16, offset2 := 16, length := 100, attempts := 1
    segToggle := some false }

/-- The slot 31 stands at the head of record 127's queue. -/
def withHead (x : Slot) (s : State) : State :=
  (s.setSlot 31 x).modStation 127 fun y => { y with queue := [31] }

/-- A frame of the slot 31 for record 127. -/
def frame (kind : FrameKind) (count : Byte) : Frame :=
  { dest := 5, kind := kind, toggle := false, last := false, sub := 0, count := count, payload := [] }

/-- A frame is in flight on trunk A, the reply timer at its last tick. -/
def sent (o : FrameOwner) (f : Frame) (phase : FramePhase) (s : State) : State :=
  s.modTrunk .a fun x => { x with inFlight := some ⟨o, f, phase, []⟩, replyTimer := some 0 }

/-- The reply to the READ is being received. -/
def replying (x : Slot) (kind : FrameKind) (s : State) : State :=
  sent (.exchange 31 127) (frame kind 64) .receiving (withHead x s)

/-- Trunk A's line is at the non-idle level, held after a character error or not yet. -/
def lineLow (held : Bool) (s : State) : State := s.modTrunk .a fun x => { x with rxIdle := false, rxHeld := held }

/-! ### Well-formed operands -/

theorem test_overrun_clear_needs_its_bit :
    (Instr.overrunClear 7).wf = false ∧ (Instr.overrunClear 8).wf = true := by decide

theorem test_controller_reset_needs_its_bit :
    (Instr.controllerReset 2).wf = false ∧ (Instr.controllerReset 1).wf = true := by decide

theorem test_register_write_leaves_words_with_rows :
    (Instr.registerWrite 6 .word 9).wf = false ∧ (Instr.registerWrite 5 .word 9).wf = true
      ∧ (Instr.registerWrite 6 (.half false) 9).wf = true := by decide

theorem test_reply_taken_needs_a_whole_reply :
    (Instr.replyTaken .a (replyCharacters 5 .ack false true 7 [1, 2])).wf = true
      ∧ (Instr.replyTaken .a ((replyCharacters 5 .ack false true 7 [1, 2]).take 7)).wf = false := by decide +kernel

theorem test_level_change_leads_a_tick_at_most :
    (Instr.receiveInputLevelChange .a true 81).wf = false ∧ (Instr.receiveInputLevelChange .a true 80).wf = true := by
  decide

/-! ### Frames (R148 to R151, section 11.4) -/

/-- A start bit, eight data bits, least significant first, and a stop bit (R148). -/
theorem test_character_bits :
    characterBits 0x16 = [false, false, true, true, false, true, false, false, false, true]
      ∧ characterOf [false, false, true, true, false, true, false, false, false, false] = some ⟨0x16, false⟩ := by decide

/-- R151's polynomial and start, by the check value of "123456789" known for them. -/
theorem test_check_of_digits : check [0x31, 0x32, 0x33, 0x34, 0x35, 0x36, 0x37, 0x38, 0x39] = 0x6F91#16 := by
  decide +kernel

theorem test_poll_frame_bytes : (pollFrame 21).bytes.take 5 = [0xC3, 21, 1, 0, 0] := by decide +kernel

theorem test_resync_toggle_is_one : (resyncFrame 21).bytes.take 5 = [0xC3, 21, 0x85, 0, 0] := by decide +kernel

/-! ### The port and the windows -/

theorem test_no_word_spells_a_command : decodeTableWord 8 1 = none := by decide

theorem test_command_write_accepts : (after (.commandWordWrite 0x102) ready).port.command = 2 := by decide +kernel

/-- A command other than ECHO takes its effect at the tick boundary after its acceptance, not before it (R182). -/
theorem test_get_param_awaits_its_boundary :
    (after .getParam (after (.commandWordWrite 20) ready)).port.state = .busy
      ∧ (after .getParam (tickBoundary (after (.commandWordWrite 20) ready))).port.state = .idle := by decide +kernel

theorem test_command_write_while_busy_is_lost :
    (after (.commandWriteIgnored 3) (asked 2 0 0 0 0 ready)).port.overrun = true := by decide +kernel

theorem test_overrun_clear :
    (after (.overrunClear 8) (after (.commandWriteIgnored 3) State.reset)).port.overrun = false := by decide +kernel

theorem test_result_code_read :
    (after (.resultCodeRead .word) (after .find (asked 2 5 0 0 0 served))).busRead = 1 := by decide +kernel

theorem test_change_flag_needs_a_read :
    (after (.changeWordWrite 3 0xFFFFFFFF) (report served 127)).changeFlags[127] = true := by decide +kernel

theorem test_change_flag_cleared_after_a_read :
    (after (.changeWordWrite 3 0x80000000) (after (.changeWordRead 3 .word) (report served 127))).changeFlags[127]
      = false := by decide +kernel

/-- A read of a part marks the flags of that part alone (R193). -/
theorem test_change_word_read_marks_its_part :
    (after (.changeWordRead 3 (.byte 0)) (report served 127)).seenMarks[127] = false := by decide +kernel

theorem test_trunk_event_clear : (after (.trunkEventClear 1) (setEvent ready .a)).trunkA.eventFlag = false := by
  decide +kernel

theorem test_interrupt_line_follows_mask :
    (after (.interruptEnableWrite 31) (setEvent ready .a)).interruptLine = true := by decide +kernel

theorem test_stray_count_read :
    (after (.strayCountRead .a .word) (after (.strayByte .a ⟨7, true⟩) ready)).busRead = 1 := by decide +kernel

theorem test_buffer_write_aligns :
    (after (.bufferWindowWrite 7 .word 0x04030201) ready).buffer = [(4, 1), (5, 2), (6, 3), (7, 4)] := by decide +kernel

theorem test_register_write_stores_argument :
    (after (.registerWrite 5 .word 9) State.reset).port.args[5] = 9 := by decide +kernel

theorem test_register_halfword_write_is_ignored :
    (after (.registerWrite 6 (.half false) 1) ready).port.state = .idle := by decide +kernel

theorem test_controller_reset_advances_generation :
    ((after (.controllerReset 1) served).station 127).generation = 3 := by decide +kernel

theorem test_power_on_reset_restores_defaults :
    (after .powerOnReset { ready with enableMask := 31 }).enableMask = 0 := by decide +kernel

theorem test_release_starts_two_ticks :
    (after .powerOnResetRelease (after .powerOnReset ready)).port.clearTimer = some 2 := by decide +kernel

/-- The power-on clear has counted its last tick. -/
def cleared : State := { State.reset with port := { Port.reset with clearTimer := some 0 } }

theorem test_clear_ends_idle : (after .powerOnClearEnd cleared).port.state = .idle := by decide +kernel

theorem test_clear_lasts_its_ticks : (after .powerOnClearEnd State.reset).port.state = .initializing := by decide +kernel

theorem test_set_param_range : (after .setParam (asked 19 7 256 0 0 ready)).port.code = .badArgument := by decide +kernel

theorem test_set_param_returns_old : (after .setParam (asked 19 7 9 0 0 ready)).port.values[0] = 1 := by decide +kernel

theorem test_get_param_default : (after .getParam (asked 20 4 0 0 0 ready)).port.values[0] = 50000 := by decide +kernel

theorem test_bad_command : (after .badCommand (asked 21 0 0 0 0 ready)).port.code = .badCommand := by decide +kernel

/-! ### The directory -/

/-- Address 9 on home trunk A with no alternate, poll class 1: the lowest vacant record is 0. -/
theorem test_enrol_takes_lowest_record :
    ((after .enrol (asked 1 0x01020009 0 0 0 served)).station 0).state = .enrolling := by decide +kernel

theorem test_enrol_address_in_use : (after .enrol (asked 1 0x00020005 0 0 0 served)).port.code = .addressInUse := by
  decide +kernel

theorem test_find_returns_handle : (after .find (asked 2 5 0 0 0 served)).port.values[0] = 0x027F := by decide +kernel

theorem test_inspect_first_word : (after .inspect (asked 3 0x027F 0 0 0 served)).port.values[0] = 0x00000205 := by
  decide +kernel

theorem test_modify_disarms :
    ((after .modify (asked 4 0x10027F 0 0 0 (joinPending served 3 127))).serviceLists[(3 : Fin 8)]) = [] := by
  decide +kernel

theorem test_hold_stops_poll_timer :
    ((after .hold (asked 5 0x027F 0 0 0 served)).station 127).pollTimer = none := by decide +kernel

theorem test_resume_with_doubt_recovers :
    (after .resume (asked 6 0x027F 0 0 0 (with127 { member with state := .held, resyncNeeded := true } ready))).port.values[0]
      = 6 := by decide +kernel

theorem test_retire_counts_slots :
    (after .retire (asked 7 0x027F 0 0 0 (withHead { reading with state := .queued } served))).port.values[0] = 1 := by
  decide +kernel

theorem test_move_recovers_on_target :
    ((after .move (asked 8 0x01027F 0 0 0 served)).station 127).curTrunk = .b := by decide +kernel

/-! ### Exchange slots -/

/-- A READ of 100 bytes of sub-address 1. -/
theorem test_submit_returns_slot_and_place :
    (after .submit (asked 9 0x01000001 0x027F 100 16 (withHead reading served))).port.values[1] = 1 := by decide +kernel

theorem test_submit_length_too_long :
    (after .submit (asked 9 0x01000001 0x027F 1025 0 served)).port.code = .badArgument := by decide +kernel

theorem test_cancel_in_flight_is_pending :
    (after .cancel (asked 10 31 0 0 0 (replying reading .read served))).port.code = .cancelPending := by decide +kernel

theorem test_cancel_between_frames :
    ((after .cancel (asked 10 31 0 0 0 (withHead reading served))).slot 31).code = some .cancelled := by decide +kernel

theorem test_collect_frees :
    ((after .collect (asked 11 31 0 0 0 (completeSlot (withHead reading served) 31 .done))).slot 31).state = .free := by
  decide +kernel

/-- A standing read of 64 bytes into buffers 0 and 64, its second buffer FRESH with fill number 9. -/
def standing : Slot :=
  { reading with
    kind := .standingRead, offset := 0, offset2 := 64, length := 64, period := 500, role1 := .filling
    role2 := .fresh, fill2 := 9, cycles := 9 }

theorem test_claim_returns_fresh :
    (after .claim (asked 12 31 0 0 0 (withHead standing served))).port.values[1] = 9 := by decide +kernel

theorem test_unclaim_nothing_held :
    (after .unclaim (asked 13 31 0 0 0 (withHead standing served))).port.values[0] = 0 := by decide +kernel

/-! ### Service (the worked sequence of section 6.8 in one step each) -/

/-- Record 127 is pending at priority 3 with 2 ATTNs. -/
def pendingService : State :=
  joinPending (with127 { member with coalesce := 2 } ready) 3 127

theorem test_acknowledge_word : (after (.serviceAcknowledge .word) pendingService).busRead = 0x0240027F := by
  decide +kernel

theorem test_spurious_acknowledge : (after (.serviceAcknowledge .word) ready).busRead = 0x00FF0080 := by decide +kernel

theorem test_end_service_reraises :
    (after .endService (asked 14 0x027F 0 0 0
      (with127 { member with reRaise := true } { ready with serviceStack := [⟨127, 2, 6, 0x40⟩] }))).serviceLists[(3 : Fin 8)]
      = [127] := by decide +kernel

/-! ### Trunks -/

theorem test_trunk_enable_finds_idle_line :
    (after .trunkEnable (asked 15 0 0 0 0 (ready.modTrunk .a fun x => { x with state := .fault }))).trunkA.state
      = .online := by decide +kernel

theorem test_trunk_disable_fails_over :
    ((after .trunkDisable (asked 16 0 0 0 0 served)).station 127).state = .recovering := by decide +kernel

theorem test_trunk_test_needs_disabled :
    (after .trunkTest (asked 17 0 0 0 0 ready)).port.code = .trunkState := by decide +kernel

/-- Trunk A in TEST, an ECHO of the two bytes 1 and 2 at offset 0. -/
def testing : State :=
  { asked 18 0 0x20000 0 0 (ready.modTrunk .a fun x => { x with state := .test }) with
    buffer := [(0, 1), (1, 2)] }

theorem test_echo_sends_its_payload :
    ((after .echo testing).port.echo.map fun e => (e.sent.length, e.sent.take 3, (e.sent.drop 4).take 3))
      = some (9, [0xC3, 0, 6], [2, 1, 2]) := by decide +kernel

/-- An ECHO awaits no tick boundary: nothing but its transmission and REPLY_WINDOW ticks lies between its acceptance and its
end (R167, R182). -/
theorem test_echo_awaits_no_boundary :
    (match step { testing with port := { testing.port with due := false } } with
      | .next t => t.pending
      | _ => []) = [.echo]
      ∧ (after .echo { testing with port := { testing.port with due := false } }).port.echo.isSome = true := by decide +kernel

/-- An ECHO on trunk A of a preamble and two check bytes, with the characters taken so far. -/
def echoing (taken : List RxChar) (transmitting : Bool) (listen : Timer) : State :=
  { testing with port := { testing.port with echo := some ⟨.a, [0xC3, 7, 8], taken, transmitting, listen⟩ } }

theorem test_echo_without_characters_fails :
    (after (.echoListenExpiry .a) (echoing [] false (some 0))).port.values[0] = 1 := by decide +kernel

theorem test_loopback_character_is_taken :
    ((after (.loopbackCharacter .a ⟨0xC3, true⟩) (after .echo testing)).port.echo.map fun e => e.taken.length)
      = some 1 := by decide +kernel

theorem test_line_hold_faults_the_trunk :
    (after (.lineHoldExpiry .a) (served.modTrunk .a fun x => { x with lineHold := some 0 })).trunkA.state = .fault := by
  decide +kernel

/-- The character being received at the expiry ends as a stray byte (R148, R163). -/
theorem test_line_hold_cuts_a_character :
    (after (.lineHoldExpiry .a) ((after (.receiveInputLevelChange .a false 40) ready).modTrunk .a
      fun x => { x with lineHold := some 0 })).trunkA.strayCount = 1 := by decide +kernel

/-- A held line gives characters again from its return to idle (R148). -/
theorem test_level_change_ends_the_held_line :
    (after (.receiveInputLevelChange .a true 40) (lineLow true ready)).trunkA.rxHeld = false := by decide +kernel

theorem test_level_change_starts_line_hold :
    (after (.receiveInputLevelChange .a false 40) ready).trunkA.lineHold = some 100 := by decide +kernel

/-! ### Timers -/

/-- A timer with ticks left does not expire (R1). -/
theorem test_poll_timer_counts_every_tick : (after (.pollTimerExpiry 127) served).trunkA.pollDue = [] := by decide +kernel

/-- Record 127 is ACTIVE and its poll timer has counted its last tick. -/
def polling : State := with127 { member with pollTimer := some 0 } ready

theorem test_poll_timer_expiry_lists : (after (.pollTimerExpiry 127) polling).trunkA.pollDue = [127] := by decide +kernel

theorem test_repeat_timer_expiry :
    ((after (.repeatTimerExpiry 31) (withHead { reading with state := .repeatWait, timer := some 0 } served)).slot
      31).pendingStep = .again := by decide +kernel

theorem test_period_timer_expiry :
    ((after (.periodTimerExpiry 31) (served.setSlot 31 { standing with state := .standingWait, timer := some 0 })).station
      127).queue = [31] := by decide +kernel

theorem test_resync_wait_expiry :
    (after (.resyncWaitExpiry 127) (with127 { member with state := .recovering, resyncWait := some 0 } ready)).trunkA.resyncList
      = [127] := by decide +kernel

theorem test_guard_timer_expiry :
    (after (.guardTimerExpiry .a) (ready.modTrunk .a fun x => { x with guardTimer := some 0 })).trunkA.guardTimer
      = none := by decide +kernel

theorem test_reply_window_expiry_is_a_miss :
    ((after (.replyWindowExpiry .a) (sent (.poll 127) (pollFrame 5) .window served)).station 127).missCount = 1 := by
  decide +kernel

/-! ### Frames sent and replies -/

theorem test_arbiter_takes_station_offer :
    (after (.arbiterTakesOffer .a) (withHead { reading with state := .queued } served)).flightOwner .a
      = some (.exchange 31 127) := by decide +kernel

theorem test_transmission_end_opens_window :
    (after (.transmissionEnd .a) (sent (.poll 127) (pollFrame 5) .transmitting served)).trunkA.replyTimer = some 20 := by
  decide +kernel

theorem test_reply_start_stops_timer :
    (after (.replyStart .a) (sent (.poll 127) (pollFrame 5) .window served)).trunkA.replyTimer = none := by
  decide +kernel

theorem test_reply_taken_stores_data :
    (after (.replyTaken .a (replyCharacters 5 .ack false false 7 (List.replicate 64 9))) (replying reading .read
      served)).buffer.read 79 = 9 := by decide +kernel

/-- A stale echo toggle makes the reply a BAD_REPLY (R157). -/
theorem test_stale_echo_is_a_miss :
    ((after (.replyTaken .a (replyCharacters 5 .ack false true 7 [])) (replying reading .read served)).station
      127).missCount = 1 := by decide +kernel

theorem test_reply_gap_is_a_miss :
    ((after (.replyGapTimeout .a) (replying reading .read served)).slot 31).pendingStep = .retry .badReply := by
  decide +kernel

theorem test_stray_byte_counts : (after (.strayByte .a ⟨0x3C, true⟩) ready).trunkA.strayCount = 1 := by decide +kernel

/-- A held line gives one character error, and then none (R148). -/
theorem test_held_line_gives_one_error :
    (after (.strayByte .a ⟨0, false⟩) (lineLow false ready)).trunkA = { (lineLow true ready).trunkA with strayCount := 1 }
      ∧ (after (.strayByte .a ⟨0, false⟩) (lineLow true ready)).trunkA.strayCount = 0 := by decide +kernel

/-! ### The step -/

theorem test_idle_step_counts_the_clear :
    (match step State.reset with | .next t => t.port.clearTimer | _ => none) = some 1 := by decide +kernel

/-! ### Witnesses

For each statement with hypotheses, states and operands that meet them, clause by clause and at the ends of their
ranges. `accepted`, `names` and the others below say a definition of Safety.lean of a concrete state. -/

theorem witness_EmptyQueuePassesTick :
    let s : State := { (with127 { member with pollTimer := some 1, resyncWait := some 1 } ready) with
      port := { (asked 20 0 0 0 0 ready).port with clearTimer := some 1 }
      trunkA := { ready.trunkA with replyTimer := some 1, guardTimer := some 1, lineHold := some 1 }
      slots := (ready.slots.set 0 { reading with state := .repeatWait, timer := some 1 }).set 31
        { standing with state := .standingWait, timer := some 1 } }
    s.pending = [] ∧ readyArbiters s = [] ∧ (s.slot 0).timer = some 1 ∧ (s.slot 31).timer = some 1
      ∧ (s.station 127).pollTimer = some 1 ∧ (s.station 127).resyncWait = some 1
      ∧ FallsDue s .powerOnClearEnd ∧ FallsDue s (.guardTimerExpiry .a) ∧ ¬FallsDue s (.guardTimerExpiry .b)
      ∧ s.port.state = .busy ∧ s.port.echo = none ∧ ¬EchoWaits s := by
  unfold FallsDue LastTick EchoWaits; decide +kernel

theorem witness_EmptyQueuePassesTick_echo :
    let s := echoing [] false (some 1)
    s.pending = [] ∧ readyArbiters s = [] ∧ ¬EchoWaits s ∧ ∃ e, s.port.echo = some e ∧ e.trunk = .a ∧ LastTick e.listen :=
  ⟨rfl, by decide +kernel, by unfold EchoWaits; decide +kernel, _, rfl, rfl, .inr rfl⟩

/-- An ECHO waits to begin; an arbiter can take the offer of record 127's queue. -/
theorem witness_EmptyQueuePassesTick_ready :
    (testing.pending = [] ∧ EchoWaits testing)
      ∧ (let s := withHead { reading with state := .queued } served
        s.pending = [] ∧ ¬EchoWaits s ∧ readyArbiters s ≠ []) := by
  unfold EchoWaits; decide +kernel

theorem witness_CommandWriteIsAcceptedOrSetsOverrun :
    ready.port.state = .idle ∧ State.reset.port.state ≠ .idle ∧ (asked 1 0 0 0 0 ready).port.state ≠ .idle
      ∧ (after (.commandWordWrite 20) ready).port.due = false ∧ (20 ≠ 18) := by
  decide

theorem witness_ChangeWordClearsOnlySeenFlags :
    let s := after (.changeWordRead 3 .word) (report served 127)
    ((127 : RecIdx).val / 32 = (3 : Fin 4).val ∧ (0x80000000 : Word).getLsbD (127 % 32) = true
        ∧ s.seenMarks[(127 : RecIdx)] = true)
      ∧ ¬((96 : RecIdx).val / 32 = (3 : Fin 4).val ∧ (0x80000000 : Word).getLsbD (96 % 32) = true)
      ∧ ((127 : RecIdx).val % 32 / 16 = 1 ∧ (111 : RecIdx).val % 32 / 16 = 0
        ∧ (104 : RecIdx).val % 32 / 8 = (1 : Fin 4).val ∧ (103 : RecIdx).val % 32 / 8 ≠ (1 : Fin 4).val) := by
  decide +kernel

theorem witness_RegisterWriteActsByWord :
    Part.half false ≠ Part.word ∧ (0 : BitVec 6).toNat = (0 : Fin 6).val ∧ (5 : BitVec 6).toNat = (5 : Fin 6).val
      ∧ (18 : BitVec 6).toNat = 18 + (0 : Fin 4).val ∧ (21 : BitVec 6).toNat = 18 + (3 : Fin 4).val
      ∧ 7 ≤ (7 : BitVec 6).toNat ∧ (13 : BitVec 6).toNat ≤ 13 ∧ 25 ≤ (25 : BitVec 6).toNat
      ∧ 25 ≤ (63 : BitVec 6).toNat := by decide

theorem witness_BufferWindowWriteStoresAlignedBytes :
    BufferCanonical State.reset ∧ BufferCanonical ready ∧ State.reset.port.state = .initializing
      ∧ ready.port.state ≠ .initializing ∧ 3 < accessBytes .word
      ∧ ¬(accessBase 16383 .word ≤ 16379 ∧ 16379 < accessBase 16383 .word + accessBytes .word) := by
  unfold BufferCanonical; decide

theorem witness_ControllerResetResetsEveryBlock :
    (2 : Word).getLsbD 0 = false ∧ (1 : Word).getLsbD 0 = true := by decide

theorem witness_PowerOnResetAndClear :
    (after .powerOnReset ready).port.resetHeld = true ∧ cleared.port.state = .initializing
      ∧ cleared.port.clearTimer = some 0 ∧ State.reset.port.clearTimer ≠ some 0 := by decide +kernel

theorem witness_ParametersAreSetAndRead :
    (Accepted (asked 19 1 65535 0 0 ready) 19 ∧ Accepted (asked 19 15 3 0 0 State.reset) 19)
      ∧ (Accepted (asked 19 14 0 0 0 ready) 19 ∧ ready.trunkA.state ≠ .disabled)
      ∧ (Accepted (asked 20 0 0 0 0 ready) 20 ∧ Accepted (asked 20 16 0 0 0 ready) 20)
      ∧ Accepted (asked 20 1 0 0 0 ready) 20 ∧ Accepted (asked 20 15 0 0 0 ready) 20 := by
  unfold Accepted; decide +kernel

theorem witness_UnknownCodeEndsBadCommand :
    Accepted (asked 0 0 0 0 0 ready) 0 ∧ Accepted (asked 21 0 0 0 0 ready) 21 ∧ Accepted (asked 255 0 0 0 0 ready) 255 := by
  unfold Accepted; decide +kernel

/-- Address 239 on home trunk B with alternate A, for record 0. -/
theorem witness_EnrolFillsLowestVacantRecord :
    let s := asked 1 0x030001EF 0x00010007 0xF0000000 0 served
    Accepted s 1 ∧ 1 ≤ (argumentByte s 0 0).toNat ∧ (argumentByte s 0 0).toNat ≤ 239
      ∧ s.indexOf (argumentByte s 0 0) = none ∧ (argumentByte s 0 1).toNat = trunkCode .b
      ∧ (argumentByte s 0 2).toNat = altTrunkCode (some .a) ∧ badGroups (groupBytes s 2) = false
      ∧ (argumentByte s 0 3).toNat = (3 : Fin 4).val ∧ (argumentByte s 1 0).toNat = (7 : Fin 8).val
      ∧ (argumentByte s 1 2).toNat = flagCode true ∧ (s.station 0).state = .vacant := by
  unfold Accepted; decide +kernel

theorem witness_DirectoryCommandsCheckInOrder :
    (Accepted (asked 1 0 0 0 0 served) 1 ∧ Accepted (asked 1 0xF0 0 0 0 served) 1)
      ∧ (Accepted (asked 3 0x80 0 0 0 served) 3
        ∧ firstFailure (handleChecks served 0x80) = some .badArgument
        ∧ firstFailure (handleChecks served 0x037F) = some .staleHandle)
      ∧ Accepted (asked 4 0x00027F 0 0 0 served) 4 ∧ Accepted (asked 5 0x037F 0 0 0 served) 5
      ∧ Accepted (asked 6 0x027F 0 0 0 served) 6 ∧ (served.station 127).state ≠ .held
      ∧ Accepted (asked 7 0x037F 0 0 0 served) 7 ∧ Accepted (asked 8 0x037F 0 0 0 served) 8 := by
  unfold Accepted; decide +kernel

theorem witness_FindReturnsHandle :
    (Accepted (asked 2 0 0 0 0 served) 2 ∧ argumentByte (asked 2 0 0 0 0 served) 0 0 = 0
        ∧ 240 ≤ (argumentByte (asked 2 240 0 0 0 served) 0 0).toNat)
      ∧ (served.indexOf 239 = none ∧ argumentByte (asked 2 239 0 0 0 served) 0 0 = 239)
      ∧ served.indexOf 5 = some 127 := by
  unfold Accepted; decide +kernel

theorem witness_InspectReportsRecord :
    Accepted (asked 3 0x027F 0 0 0 served) 3
      ∧ Names (asked 3 0x027F 0 0 0 served) (handleArgument (asked 3 0x027F 0 0 0 served)) 127 :=
  by unfold Accepted Names; decide +kernel

/-- Every field selected, to the ends of their ranges; the request pending at priority 3 moves to 7. -/
theorem witness_ModifyChangesSelectedFields :
    let s := asked 4 0x3F027F 0x01FF0703 2 0xF0FE served
    (Accepted s 4 ∧ Names s (handleArgument s) 127 ∧ (s.station 127).state ≠ .retiring)
      ∧ ((argumentByte s 0 2).getLsbD 5 = true ∧ (argumentByte s 1 0).toNat = (3 : Fin 4).val
        ∧ badGroups (groupBytes s 3) = false ∧ (argumentByte s 1 1).toNat = (7 : Fin 8).val
        ∧ (argumentByte s 1 3).toNat = flagCode true ∧ (argumentByte s 2 0).toNat = altTrunkCode none
        ∧ (s.station 127).altTrunk = some .b ∧ (s.station 127).curTrunk ≠ .b ∧ (127 : RecIdx) ∉ (s.trunk .b).pollDue
        ∧ (s.trunk .b).inFlight = none)
      ∧ (127 : RecIdx) ∈ (joinPending served 3 127).serviceLists[(3 : Fin 8)] := by
  unfold Accepted Names; decide +kernel

theorem witness_HoldStopsService :
    Accepted (asked 5 0x027F 0 0 0 served) 5
      ∧ Names (asked 5 0x027F 0 0 0 served) (handleArgument (asked 5 0x027F 0 0 0 served)) 127
      ∧ (served.station 127).state = .active
      ∧ ((with127 { member with state := .lost } ready).station 127).state ≠ .active
      ∧ ((with127 { member with state := .lost } ready).station 127).state ≠ .suspect :=
  by unfold Accepted Names; decide +kernel

theorem witness_ResumeChoosesState :
    let held (b : Bool) (k : Nat) : State :=
      asked 6 0x027F 0 0 0 (with127 { member with state := .held, resyncNeeded := b, missCount := k } ready)
    Accepted (held true 0) 6 ∧ Names (held true 0) (handleArgument (held true 0)) 127
      ∧ ((held true 0).station 127).state = .held
      ∧ ((held false 1).station 127).missCount < (held false 1).params.suspectAt
      ∧ ¬((held false 2).station 127).missCount < (held false 2).params.suspectAt := by
  unfold Accepted Names; decide +kernel

/-- A station with one QUEUED exchange and a standing read at rest; and one whose POLL is in flight. -/
def retirable : State :=
  (withHead { reading with state := .queued } served).setSlot 0 { standing with state := .standingWait, role1 := .seen }

theorem queues_retirable : QueuesLawful (asked 7 0x027F 0 0 0 retirable) := by
  unfold QueuesLawful StationQueueLawful GroupQueueLawful
  refine ⟨?_, ?_, ?_, ?_, ?_⟩ <;> decide +kernel

theorem witness_RetireVacatesOrWaits :
    let s := asked 7 0x027F 0 0 0 retirable
    let again := asked 7 0x027F 0 0 0 (with127 { member with state := .retiring } ready)
    (Accepted s 7 ∧ Names s (handleArgument s) 127 ∧ (s.station 127).state ≠ .retiring ∧ s.serviceStack = []
        ∧ frameInFlight s 127 = false ∧ frameInFlight (sent (.poll 127) (pollFrame 5) .window s) 127 = true)
      ∧ (Accepted again 7 ∧ Names again (handleArgument again) 127 ∧ (again.station 127).state = .retiring)
      ∧ ∃ e ∈ ({ s with serviceStack := [⟨127, 2, 3, 0x40⟩] }).serviceStack, e.record = 127 := by
  unfold Accepted Names; decide +kernel

theorem witness_MoveChangesCurrentTrunk :
    let s := asked 8 0x01027F 0 0 0 served
    let x := s.station 127
    Accepted s 8 ∧ Names s (handleArgument s) 127 ∧ (argumentByte s 0 2).toNat = trunkCode .b ∧ x.state = .active
      ∧ TrunkId.b ≠ x.curTrunk ∧ some TrunkId.b = x.altTrunk ∧ (s.trunk .b).state = .online
      ∧ frameInFlight s 127 = false ∧ frameInFlight (sent (.poll 127) (pollFrame 5) .window s) 127 = true
      ∧ 1 < (argumentByte (asked 8 0x02027F 0 0 0 served) 0 2).toNat := by
  unfold Accepted Names; decide +kernel

/-- The first failure of each check of a SUBMIT: kind, handle, generation, group, LOST, RETIRING, length, offset, the
standing limit, and no free slot. -/
theorem witness_SubmitChecksInOrder :
    let fails (a b c d : Word) (s : State) : Option ResultCode := firstFailure (submitChecks (asked 9 a b c d s))
    let state (st : StationState) : State := with127 { member with state := st } ready
    let full (x : Slot) : State := { served with slots := Vector.replicate 32 x }
    Accepted (asked 9 7 0 0 0 served) 9
      ∧ fails 7 0x027F 1 0 served = some .badArgument ∧ fails 1 0x02FF 1 0 served = some .badArgument
      ∧ fails 1 0x037F 1 0 served = some .staleHandle ∧ fails 5 239 1 0 served = some .badArgument
      ∧ fails 1 0x027F 0 0 (state .lost) = some .stationLost
      ∧ fails 1 0x027F 0 0 (state .retiring) = some .stationState
      ∧ fails 1 0x027F 1025 0 served = some .badArgument ∧ fails 1 0x027F 1 16384 served = some .bufferRange
      ∧ fails 1 0x027F 1 0 (full { reading with kind := .write }) = some .noFreeSlot := by
  unfold Accepted; decide +kernel

theorem witness_SubmitChecksInOrder_standing :
    let s : State := { asked 9 6 0x027F 64 0x400000 { served with slots := Vector.replicate 32 standing } with
      port := { (asked 9 0 0 0 0 served).port with snapshot := #v[6, 0x027F, 64, 0x400000, 1, 0] } }
    firstFailure (submitChecks s) = some .standingLimit := by decide +kernel

/-- A READ of 1024 bytes at the last offset it fits, with slot 31 taken: slot 0 is the lowest free. -/
theorem witness_SubmitQueuesStationExchange :
    let s := asked 9 0x01000001 0x027F 1024 15360 (withHead reading served)
    Accepted s 9 ∧ kindOf (argumentByte s 0 0).toNat = some .read
      ∧ readyModeOf (argumentByte s 0 1).toNat = some .stop ∧ firstFailure (submitChecks s) = none
      ∧ (s.slot 0).state = .free := by
  unfold Accepted; decide +kernel

/-- A GROUP_WRITE of 64 bytes to group 0xF1. -/
def grouping (s : State) : State := asked 9 5 0xF1 64 0 s

/-- An ACTIVE group write in slot 31, its copy for trunk A in the condition given. -/
def groupActive (a b : CopyState) : State :=
  { ready with
    slots := ready.slots.set 31
      { Slot.reset with state := .active, kind := .groupWrite, target := 0xF1, length := 64, copyA := a, copyB := b }
    groupQueue := [31] }

theorem witness_SubmitDispatchesGroupWrite :
    let behind := grouping (groupActive .offered .unused)
    (Accepted behind 9 ∧ (argumentByte behind 0 0).toNat = 5 ∧ firstFailure (submitChecks behind) = none
        ∧ (behind.slot 0).state = .free ∧ behind.groupQueue.head? = some 31 ∧ (31 : SlotIdx) ≠ 0
        ∧ (behind.slot 31).state = .active)
      ∧ (grouping served).groupQueue = [] := by
  unfold Accepted; decide +kernel

theorem witness_SubmitDispatchesGroupWrite_chosen : ChosenFor (grouping served) 0xF1 .a :=
  ⟨by decide +kernel, 127, by decide +kernel, by decide +kernel, by decide +kernel⟩

theorem witness_SubmitDispatchesGroupWrite_none : ¬ChosenFor (grouping ready) 0xF1 .a ∧ ¬ChosenFor (grouping ready) 0xF1 .b := by
  unfold ChosenFor; decide +kernel

theorem witness_CancelEndsStationExchange :
    let s := asked 10 31 0 0 0 (withHead { reading with pendingStep := .retry .noReply } served)
    (Accepted s 10 ∧ (31 : SlotIdx).val = (argumentByte s 0 0).toNat ∧ (s.slot 31).state = .active
        ∧ (s.slot 31).kind ≠ .groupWrite ∧ slotInFlight s 31 = false)
      ∧ slotInFlight (replying reading .read served) 31 = true
      ∧ firstFailure (slotChecks (asked 10 32 0 0 0 served)) = some .badArgument
      ∧ firstFailure (slotChecks (asked 10 31 0 0 0 served)) = some .noSuchExchange
      ∧ ((completeSlot (withHead reading served) 31 .done).slot 31).state = .complete := by
  unfold Accepted; decide +kernel

theorem witness_CancelWithdrawsGroupWrite :
    let s := asked 10 31 0 0 0 (groupActive .sending .offered)
    let queued : State := asked 10 0 0 0 0 { (groupActive .offered .unused) with
      slots := (groupActive .offered .unused).slots.set 0 { Slot.reset with state := .queued, kind := .groupWrite }
      groupQueue := [31, 0] }
    (Accepted s 10 ∧ (31 : SlotIdx).val = (argumentByte s 0 0).toNat ∧ (s.slot 31).kind = .groupWrite
        ∧ (s.slot 31).state = .active ∧ (s.slot 31).copyA = .sending)
      ∧ ((groupActive .offered .sentWhole).slot 31).copyA ≠ .sending
      ∧ ((groupActive .offered .sentWhole).slot 31).copyB ≠ .sending
      ∧ (groupActive .offered .sentWhole).groupQueue = [31]
      ∧ (Accepted queued 10 ∧ (0 : SlotIdx).val = (argumentByte queued 0 0).toNat ∧ (queued.slot 0).state = .queued
        ∧ (queued.slot 0).kind = .groupWrite ∧ queued.groupQueue.head? = some 31
        ∧ (queued.slot 31).state = .active) := by
  unfold Accepted; decide +kernel

/-- An ACTIVE group write in slot 31, and behind it one to a group with no member and one to group 0xF1, which record
127 is in. -/
def groupQueued (a b : CopyState) : State :=
  let waits (group : BitVec 16) : Slot := { Slot.reset with kind := .groupWrite, target := group, length := 1, state := .queued }
  { (with127 member (groupActive a b)) with
    slots := ((groupActive a b).slots.set 0 (waits 0xF0)).set 1 (waits 0xF1), groupQueue := [31, 0, 1] }

theorem queues_grouped : QueuesLawful (asked 10 31 0 0 0 (groupQueued .offered .sentWhole)) := by
  unfold QueuesLawful StationQueueLawful GroupQueueLawful
  refine ⟨?_, ?_, ?_, ?_, ?_⟩ <;> decide +kernel

theorem witness_CancelWithdrawsGroupWrite_next :
    let s := asked 10 31 0 0 0 (groupQueued .offered .sentWhole)
    Accepted s 10 ∧ (s.slot 31).copyA ≠ .sending ∧ (s.slot 31).copyB ≠ .sending ∧ s.groupQueue = 31 :: [0, 1]
      ∧ ¬ChosenFor s (groupOf s 0) .a ∧ ¬ChosenFor s (groupOf s 0) .b ∧ (2 : SlotIdx) ∉ s.groupQueue := by
  unfold Accepted ChosenFor; decide +kernel

theorem witness_CollectReturnsResultAndFrees :
    let s := asked 11 31 0 0 0 (completeSlot (withHead reading served) 31 .doneShort)
    Accepted s 11 ∧ (31 : SlotIdx).val = (argumentByte s 0 0).toNat ∧ (s.slot 31).state = .complete
      ∧ (s.slot 31).code = some .doneShort
      ∧ firstFailure (slotChecks (asked 11 32 0 0 0 served)) = some .badArgument
      ∧ firstFailure (slotChecks (asked 11 31 0 0 0 served)) = some .noSuchExchange := by
  unfold Accepted; decide +kernel

/-- CLAIM and UNCLAIM of the standing read in slot 31, with the roles given. -/
def claiming (code : Byte) (first second : Role) : State :=
  asked code 31 0 0 0 (withHead { standing with role1 := first, role2 := second } served)

theorem witness_ClaimHoldsFreshBuffer :
    let s := claiming 12 .filling .fresh
    Accepted s 12 ∧ (31 : SlotIdx).val = (argumentByte s 0 0).toNat ∧ (s.slot 31).kind = .standingRead
      ∧ (s.slot 31).state = .active ∧ (s.slot 31).role1 ≠ .fresh ∧ (s.slot 31).role2 = .fresh
      ∧ ((claiming 12 .fresh .filling).slot 31).role1 = .fresh
      ∧ ((claiming 12 .filling .heldByHost).slot 31).role2 ≠ .fresh := by
  unfold Accepted; decide +kernel

theorem witness_ClaimHoldsFreshBuffer_refused :
    firstFailure (slotChecks (asked 12 32 0 0 0 served)) = some .badArgument
      ∧ ((withHead reading served).slot 31).kind ≠ .standingRead
      ∧ ((completeSlot (claiming 12 .fresh .filling) 31 .cancelled).slot 31).state = .complete := by decide +kernel

theorem witness_UnclaimReleasesBuffer :
    let s := claiming 13 .heldByHost .filling
    Accepted s 13 ∧ (31 : SlotIdx).val = (argumentByte s 0 0).toNat ∧ (s.slot 31).kind = .standingRead
      ∧ (s.slot 31).state = .active := by
  unfold Accepted; decide +kernel

theorem witness_EndServicePopsTop :
    let s := asked 14 0x027F 0 0 0 (with127 { member with reRaise := true } { ready with serviceStack := [⟨127, 2, 7, 1⟩] })
    (Accepted s 14 ∧ Names s (handleArgument s) 127 ∧ s.serviceStack = [⟨127, 2, 7, 1⟩]
        ∧ handleIndex (handleArgument s) = 127 ∧ (handleArgument s).extractLsb' 8 8 = 2)
      ∧ (asked 14 0x027F 0 0 0 served).serviceStack = []
      ∧ firstFailure (handleChecks s 0x037F) = some .staleHandle := by
  unfold Accepted Names; decide +kernel

theorem witness_AcknowledgeTakesWinner :
    let s : State := { (joinPending served 7 127) with serviceStack := [⟨0, 0, 6, 1⟩] }
    s.serviceLists[(7 : Fin 8)].head? = some 127 ∧ (∀ q : Fin 8, 7 < q → s.serviceLists[q] = [])
      ∧ (∀ top ∈ s.serviceStack.head?, top.priority < 7) := by decide +kernel

theorem witness_SpuriousAcknowledgeChangesNothing :
    let s : State := { (joinPending served 7 127) with serviceStack := [⟨0, 0, 7, 1⟩] }
    (∀ p : Fin 8, ready.serviceLists[p] = [])
      ∧ s.serviceStack.head? = some ⟨0, 0, 7, 1⟩ ∧ ∀ p : Fin 8, s.serviceLists[p] ≠ [] → p ≤ 7 := by decide +kernel

theorem witness_TrunkEnableExaminesLine :
    let fault := asked 15 1 0 0 0 (ready.modTrunk .b fun x => { x with state := .fault })
    (Accepted fault 15 ∧ (argumentByte fault 0 0).toNat = trunkCode .b ∧ (fault.trunk .b).state = .fault)
      ∧ 1 < (argumentByte (asked 15 2 0 0 0 ready) 0 0).toNat ∧ (ready.trunk .a).state = .online := by
  unfold Accepted; decide +kernel

theorem witness_TrunkDisableAndTest :
    let disabled (code : Byte) (s : State) : State := asked code 1 0 0 0 (s.modTrunk .b fun x => { x with state := .disabled })
    (Accepted (disabled 16 served) 16 ∧ (argumentByte (disabled 16 served) 0 0).toNat = trunkCode .b
        ∧ ((disabled 16 served).trunk .b).state ≠ .online ∧ 1 < (argumentByte (asked 16 2 0 0 0 ready) 0 0).toNat)
      ∧ (Accepted (disabled 17 served) 17 ∧ ((disabled 17 served).trunk .b).state = .disabled
        ∧ ∀ r : RecIdx, ((disabled 17 served).station r).state = .vacant ∨ ((disabled 17 served).station r).curTrunk ≠ .b)
      ∧ (((disabled 17 (with127 { member with curTrunk := .b } ready)).station 127).state ≠ .vacant
        ∧ ((disabled 17 (with127 { member with curTrunk := .b } ready)).station 127).curTrunk = .b) := by
  unfold Accepted; decide +kernel

theorem witness_EchoBuildsItsFrame :
    let s := asked 18 0 (0x400000 + 16320) 0 0 testing
    Accepted s 18 ∧ (argumentByte s 0 0).toNat = trunkCode .a ∧ (s.trunk .a).state = .test
      ∧ (argumentByte s 1 2).toNat = 64 ∧ argumentHalf s 1 % 4 = 0 ∧ argumentHalf s 1 + 64 = 16384
      ∧ 1 < (argumentByte (asked 18 2 0 0 0 testing) 0 0).toNat := by
  unfold Accepted; decide +kernel

theorem witness_EchoComparesCharacters :
    let e : EchoTest := ⟨.a, [0xC3, 7, 8], [⟨0xC3, true⟩], true, some 0⟩
    let s := echoing [⟨0xC3, true⟩] true (some 0)
    s.port.echo = some e ∧ 2 ≤ e.sent.length ∧ e.taken.length + 1 < e.sent.length
      ∧ e.sent.length ≤ [(⟨0xC3, true⟩ : RxChar), ⟨7, true⟩].length + 1 ∧ e.listen = some 0 ∧ some 1 ≠ (some 0 : Timer)
      ∧ e.transmitting = true ∧ (s.trunk e.trunk).inFlight = none := by decide +kernel

/-- Record 127 on trunk A with an exchange in flight there, its line held. -/
def failing (x : Station) : State :=
  asked 16 0 0 0 0 ((replying reading .read (with127 x ready)).modTrunk .a fun y => { y with lineHold := some 0 })

/-- A RETIRING record whose frame is on trunk B. -/
def retiringOnB : State :=
  (with127 { member with state := .retiring } ready).modTrunk .b
    fun x => { x with inFlight := some ⟨.poll 127, pollFrame 5, .window, []⟩ }

theorem queues_failing : QueuesLawful (failing member) := by
  unfold QueuesLawful StationQueueLawful GroupQueueLawful
  refine ⟨?_, ?_, ?_, ?_, ?_⟩ <;> decide +kernel

theorem witness_TrunkLossTreatsStations :
    let s := failing member
    ((s.trunk .a).state = .online ∧ (s.trunk .a).lineHold = some 0 ∧ Accepted s 16
        ∧ (argumentByte s 0 0).toNat = trunkCode .a ∧ carriedOn s .a = some 31 ∧ (s.slot 31).state = .active
        ∧ (s.station 127).state = .active ∧ (s.station 127).curTrunk = .a ∧ UsableOther s (s.station 127) .b)
      ∧ ¬UsableOther (failing { member with altTrunk := none }) ((failing { member with altTrunk := none }).station 127) .b
      ∧ ((failing { member with state := .held }).station 127).state = .held
      ∧ (((failing { member with state := .retiring }).station 127).state = .retiring
        ∧ frameTo (failing { member with state := .retiring }) .a 127 = true)
      ∧ (retiringOnB.station 127).state = .retiring ∧ frameTo retiringOnB .a 127 = false := by
  unfold Accepted UsableOther; decide +kernel

/-- Trunk A has the probe of a LOST station, whose alternate trunk is the one given, and its copy of a group write. -/
def probing (alt : Option TrunkId) : State :=
  (with127 { member with state := .lost, altTrunk := alt } (groupActive .offered .sentWhole)).modTrunk .a
    fun x => { x with pollDue := [127] }

theorem witness_TrunkLossTreatsStations_probe :
    (((probing (some .b)).trunk .a).state = .online ∧ ((probing (some .b)).station 127).state = .lost
        ∧ (127 : RecIdx) ∈ ((probing (some .b)).trunk .a).pollDue ∧ ((probing (some .b)).trunk .b).state = .online
        ∧ TrunkOf ((probing (some .b)).station 127) .b ∧ ¬TrunkOf ((probing none).station 127) .b)
      ∧ (127 : RecIdx) ∉ (ready.trunk .a).pollDue
      ∧ (probing none).groupQueue = [31] ∧ ((probing none).slot 31).copyA = .offered
      ∧ ((probing none).slot 31).copyB = .sentWhole ∧ carriedOn (probing none) .a = none := by
  unfold TrunkOf; decide +kernel

theorem witness_PollTimerExpiryListsStation :
    let lost (alt : Option TrunkId) : State :=
      with127 { member with state := .lost, altTrunk := alt, pollTimer := some 0 } (ready.modTrunk .a fun x => { x with state := .fault })
    ((polling.station 127).pollTimer = some 0 ∧ (polling.station 127).state = .active)
      ∧ (served.station 127).pollTimer ≠ some 0
      ∧ (((with127 { member with state := .lost } ready).station 127).state = .lost ∧ (ready.trunk .a).state = .online)
      ∧ (((lost (some .b)).trunk .a).state ≠ .online ∧ ((lost (some .b)).trunk .b).state = .online
        ∧ ((lost none).station 127).altTrunk = none) := by decide +kernel

theorem witness_OtherTimerExpiries :
    let s : State :=
      { (with127 { member with state := .recovering, resyncWait := some 0 } ready) with
        slots := (ready.slots.set 0 { reading with state := .repeatWait, timer := some 0 }).set 31
          { standing with state := .standingWait, timer := some 0 }
        trunkB := { ready.trunkB with guardTimer := some 0 } }
    ((s.slot 0).state = .repeatWait ∧ (s.slot 0).timer = some 0)
      ∧ ((s.slot 31).state = .standingWait ∧ (s.slot 31).timer = some 0)
      ∧ ((s.station 127).state = .recovering ∧ (s.station 127).resyncWait = some 0)
      ∧ (s.trunk .b).guardTimer = some 0
      ∧ ((s.slot 1).timer ≠ some 0 ∧ (s.station 0).resyncWait ≠ some 0 ∧ (s.trunk .a).guardTimer ≠ some 0
        ∧ (s.trunk .a).replyTimer ≠ some 0 ∧ (s.trunk .a).lineHold ≠ some 0) := by decide +kernel

/-- Record 127 is next in rotation on trunk A, where the station source was served least recently. -/
def offering (x : Slot) : State :=
  (withHead x served).modTrunk .a fun y => { y with lastServed := 126, order := [.station, .link, .group] }

theorem first_ready (s : State) (hr : StationReady s .a 127 31) (hl : (s.trunk .a).lastServed = 126) :
    FirstReady s .a 127 31 := by
  refine ⟨hr, fun q m _ => ?_⟩
  rw [hl]
  exact Nat.zero_le _

theorem witness_ArbiterSendsExchangeFrame :
    let s := offering reading
    TrunkIdle s .a ∧ NextServed s .a .station ∧ FirstReady s .a 127 31 ∧ (s.slot 31).kind ≠ .groupWrite
      ∧ ¬((s.slot 31).kind = .standingRead ∧ (s.slot 31).state = .queued) := by
  refine ⟨by unfold TrunkIdle; decide +kernel, ⟨[], [.link, .group], by decide +kernel, by simp, by simp⟩,
    first_ready _ (by unfold StationReady; decide +kernel) (by decide +kernel), by decide +kernel, by decide +kernel⟩

/-- A standing read whose cycle has not begun, one buffer FRESH and the other HELD_BY_HOST. -/
def waiting : Slot := { standing with state := .queued, role1 := .heldByHost, role2 := .fresh }

theorem witness_ArbiterSendsExchangeFrame_cycle :
    let s := offering waiting
    TrunkIdle s .a ∧ NextServed s .a .station ∧ FirstReady s .a 127 31 ∧ (s.slot 31).kind = .standingRead
      ∧ (s.slot 31).state = .queued ∧ SlotRolesLawful (s.slot 31) := by
  refine ⟨by unfold TrunkIdle; decide +kernel, ⟨[], [.link, .group], by decide +kernel, by simp, by simp⟩,
    first_ready _ (by unfold StationReady; decide +kernel) (by decide +kernel), by decide +kernel, by decide +kernel,
    by unfold SlotRolesLawful; decide +kernel⟩

/-- Trunk A's lists hold record 127, behind record 0, whose POLL is in flight on trunk B. -/
def linking (resync due : List RecIdx) : State :=
  { served with
    trunkA := { served.trunkA with resyncList := resync, pollDue := due }
    trunkB := { served.trunkB with inFlight := some ⟨.poll 0, pollFrame 9, .window, []⟩ } }

theorem witness_ArbiterSendsLinkFrame :
    (TrunkIdle (linking [0, 127] []) .a ∧ NextServed (linking [0, 127] []) .a .link
        ∧ (∀ q ∈ [(0 : RecIdx)], frameInFlight (linking [0, 127] []) q = true)
        ∧ frameInFlight (linking [0, 127] []) 127 = false
        ∧ ((linking [0, 127] []).trunk .a).resyncList = [0] ++ 127 :: [])
      ∧ (∀ q ∈ ((linking [0] [0, 127]).trunk .a).resyncList, frameInFlight (linking [0] [0, 127]) q = true)
      ∧ ((linking [0] [0, 127]).trunk .a).pollDue = [0] ++ 127 :: [] := by
  refine ⟨⟨by unfold TrunkIdle; decide +kernel, ⟨[], [.group, .station], by decide +kernel, by simp, by simp⟩, ?_, ?_, ?_⟩,
    ?_, ?_⟩ <;> decide +kernel

theorem witness_GroupCopyIsSentOnce :
    let s := groupActive .offered .dropped
    let ends := sent (.groupCopy 31) (frame .write 64) .transmitting (groupActive .sending .dropped)
    ((s.slot 31).state = .active ∧ (s.slot 31).kind = .groupWrite ∧ TrunkIdle s .a ∧ NextServed s .a .group
        ∧ s.groupQueue.head? = some 31 ∧ (s.slot 31).copy .a = .offered)
      ∧ ((ends.slot 31).state = .active ∧ (ends.slot 31).kind = .groupWrite
        ∧ (ends.trunk .a).inFlight = some ⟨.groupCopy 31, frame .write 64, .transmitting, []⟩
        ∧ (ends.slot 31).copy .b ≠ .offered ∧ (ends.slot 31).copy .b ≠ .sending)
      ∧ ((groupActive .sending .offered).slot 31).copy .b = .offered := by
  refine ⟨⟨by decide +kernel, by decide +kernel, by unfold TrunkIdle; decide +kernel,
    ⟨[.link], [.station], by decide +kernel, by simp, ?_⟩, by decide +kernel, by decide +kernel⟩, ?_, ?_⟩
  · intro src h
    obtain rfl : src = .link := by simpa using h
    intro r h
    rcases h with h | h <;> exact absurd h (by simp [groupActive, ready, Trunk.reset, State.trunk])
  · decide +kernel
  · decide +kernel

/-- The copy's end completes the write at the head of a queue of three. -/
theorem witness_GroupCopyIsSentOnce_next :
    let s := sent (.groupCopy 31) (frame .write 64) .transmitting (groupQueued .sending .dropped)
    (s.slot 31).copy .b ≠ .offered ∧ (s.slot 31).copy .b ≠ .sending ∧ s.groupQueue = 31 :: [0, 1]
      ∧ ¬ChosenFor s (groupOf s 0) .a ∧ ¬ChosenFor s (groupOf s 0) .b := by
  unfold ChosenFor; decide +kernel

theorem queues_copied : QueuesLawful (sent (.groupCopy 31) (frame .write 64) .transmitting (groupQueued .sending .dropped)) := by
  unfold QueuesLawful StationQueueLawful GroupQueueLawful
  refine ⟨?_, ?_, ?_, ?_, ?_⟩ <;> decide +kernel

theorem witness_TransmissionEndOpensWindow :
    ((sent (.poll 127) (pollFrame 5) .transmitting served).trunk .a).inFlight
        = some ⟨.poll 127, pollFrame 5, .transmitting, []⟩
      ∧ ∀ n, FrameOwner.poll 127 ≠ .groupCopy n :=
  ⟨by decide +kernel, fun _ => by simp⟩

theorem witness_CharacterBeginsReplyOrIsStray :
    let c : RxChar := ⟨0x3C, true⟩
    c = ⟨0x3C, true⟩ ∧ (testing.trunk .a).state = .test ∧ ((ready.trunk .a).state ≠ .test ∧ (ready.trunk .a).inFlight = none)
      ∧ ((sent (.poll 127) (pollFrame 5) .window served).trunk .a).inFlight = some ⟨.poll 127, pollFrame 5, .window, []⟩
      ∧ ((sent (.poll 127) (pollFrame 5) .receiving served).trunk .a).inFlight
          = some ⟨.poll 127, pollFrame 5, .receiving, []⟩
      ∧ reception ([] ++ [c]) = .more ∧ [c] ≠ []
      ∧ ¬((⟨0x3C, false⟩ : RxChar).value = 0x3C ∧ (⟨0x3C, false⟩ : RxChar).stopOk = true)
      ∧ ((sent (.poll 127) (pollFrame 5) .window served).trunk .a).rxHeld = false
      ∧ ((sent (.poll 127) (pollFrame 5) .receiving served).trunk .a).rxHeld = false := by decide +kernel

/-- A line held after a character error, and one at the non-idle level that is not, with a series of characters that has an
error. -/
theorem witness_CharacterBeginsReplyOrIsStray_held :
    ((lineLow true ready).trunk .a).rxHeld = true
      ∧ (((lineLow false ready).trunk .a).state ≠ .test ∧ ((lineLow false ready).trunk .a).inFlight = none
        ∧ ((lineLow false ready).trunk .a).rxHeld = false ∧ ((lineLow false ready).trunk .a).rxIdle = false)
      ∧ (∀ d ∈ [(⟨9, true⟩ : RxChar)], d.stopOk = true) ∧ (⟨0, false⟩ : RxChar).stopOk = false := by decide +kernel

theorem witness_LevelChangeRunsLineHold :
    (ready.trunk .a).rxIdle = true ∧ (ready.trunk .a).state = .online ∧ (ready.trunk .a).inFlight = none
      ∧ ((ready.modTrunk .a fun x => { x with rxIdle := false }).trunk .a).rxIdle = false
      ∧ (testing.trunk .a).state ≠ .online := by decide +kernel

/-- A reply to a READ frame for 64 bytes, the exchange's first segment, with 64 bytes and with none. -/
theorem witness_AckStoresDataAndAdvances :
    let s := replying reading .read served
    let x := s.slot 31
    Receiving s .a (.exchange 31 127) (frame .read 64) ∧ (s.trunk .a).strayCount ≤ 65535 ∧ x.state = .active
      ∧ x.cancelRequested = false ∧ handleIndex x.target = 127 ∧ x.kind = .read
      ∧ (frame .read 64).count.toNat = x.segLen ∧ x.segLen ≤ 64 ∧ (List.replicate 64 (9 : Byte)).length ≤ x.segLen
      ∧ x.offset + x.bytesDone + 64 ≤ 16384 ∧ (s.station 127).state = .active ∧ BufferCanonical s
      ∧ (true && (s.station 127).armed) = true := by
  unfold Receiving BufferCanonical; decide +kernel

theorem witness_BusyAndRejectDecideByReadyMode :
    let s := replying { reading with readyMode := .repeatBusy, repeatLimit := 255, repeats := 254 } .read served
    let x := s.slot 31
    Receiving s .a (.exchange 31 127) (frame .read 64) ∧ (s.trunk .a).strayCount ≤ 65535
      ∧ ((frame .read 64).kind = .read ∧ (List.replicate 64 (9 : Byte)).length ≤ (frame .read 64).count.toNat)
      ∧ x.state = .active ∧ x.cancelRequested = false
      ∧ handleIndex x.target = 127 ∧ x.kind ≠ .standingRead ∧ x.kind ≠ .groupWrite
      ∧ (s.station 127).state = .active ∧ x.repeats < x.repeatLimit := by
  unfold Receiving; decide +kernel

theorem witness_StandingCycleEndsAtReply :
    let s := replying standing .read served
    let x := s.slot 31
    Receiving s .a (.exchange 31 127) (frame .read 64) ∧ (s.trunk .a).strayCount ≤ 65535 ∧ x.state = .active
      ∧ x.cancelRequested = false ∧ handleIndex x.target = 127 ∧ x.kind = .standingRead
      ∧ (frame .read 64).kind = .read ∧ (frame .read 64).count.toNat = x.segLen ∧ (s.station 127).state = .active
      ∧ (List.replicate 64 (9 : Byte)).length = x.segLen ∧ x.offset + x.bytesDone + 64 ≤ 16384
      ∧ x.length ≤ x.bytesDone + x.segLen ∧ (List.replicate 63 (9 : Byte)).length < x.segLen ∧ BufferCanonical s := by
  unfold Receiving BufferCanonical; decide +kernel

theorem roles_standing : SlotRolesLawful ((replying standing .read served).slot 31) := by
  unfold SlotRolesLawful; decide +kernel

theorem witness_CancelledOrRetiringExchangeEnds :
    let s := replying { reading with cancelRequested := true } .read served
    let x := s.slot 31
    Receiving s .a (.exchange 31 127) (frame .read 64) ∧ (s.trunk .a).strayCount ≤ 65535 ∧ x.state = .active
      ∧ handleIndex x.target = 127 ∧ x.kind = .read ∧ (frame .read 64).kind = .read
      ∧ (frame .read 64).count.toNat = x.segLen ∧ x.segLen ≤ 64 ∧ x.offset + x.bytesDone + 64 ≤ 16384
      ∧ x.cancelRequested = true ∧ (s.station 127).state = .active ∧ BufferCanonical s
      ∧ ((replying reading .read (with127 { member with state := .retiring } ready)).station 127).state = .retiring := by
  unfold Receiving BufferCanonical; decide +kernel

theorem roles_cancelled : SlotRolesLawful ((replying { reading with cancelRequested := true } .read served).slot 31) := by
  unfold SlotRolesLawful; decide +kernel

theorem ends_in_no_reply (s : State) (u : TrunkId) (o : FrameOwner) (f : Frame)
    (h : (s.trunk u).inFlight = some ⟨o, f, .window, []⟩) (hr : (s.trunk u).replyTimer = some 0) :
    EndsInMiss s u o (.replyWindowExpiry u) .noReply :=
  ⟨_, h, rfl, .inl ⟨rfl, rfl, rfl, hr⟩⟩

/-- A RETIRING record's exchange ends with a miss. -/
theorem witness_CancelledOrRetiringExchangeEnds_miss :
    let s := sent (.exchange 31 127) (frame .read 64) .window
      (withHead reading (with127 { member with state := .retiring } ready))
    EndsInMiss s .a (.exchange 31 127) (.replyWindowExpiry .a) .noReply ∧ (s.slot 31).state = .active
      ∧ (s.slot 31).kind ≠ .groupWrite ∧ handleIndex (s.slot 31).target = 127 ∧ (s.station 127).state = .retiring
      ∧ (s.trunk .a).strayCount ≤ 65535 :=
  ⟨ends_in_no_reply _ _ _ (frame .read 64) (by decide +kernel) (by decide +kernel), by decide +kernel⟩

/-- The exchange's window has expired with the miss count and the retries given. -/
def missing (count retries : Nat) : State :=
  sent (.exchange 31 127) (frame .read 64) .window
    (withHead { reading with retries := retries } (with127 { member with missCount := count } ready))

theorem queues_missing : QueuesLawful (missing 4 3) := by
  unfold QueuesLawful StationQueueLawful GroupQueueLawful
  refine ⟨?_, ?_, ?_, ?_, ?_⟩ <;> decide +kernel

theorem witness_MissRetriesOrFails :
    let s := missing 4 3
    let x := s.slot 31
    EndsInMiss s .a (.exchange 31 127) (.replyWindowExpiry .a) .noReply ∧ (s.trunk .a).strayCount ≤ 65535
      ∧ x.state = .active ∧ x.cancelRequested = false ∧ x.kind ≠ .standingRead ∧ (31 : SlotIdx) ∈ (s.station 127).queue
      ∧ (s.station 127).state = .active ∧ s.params.lostAt ≤ min 15 ((s.station 127).missCount + 1)
      ∧ (min 15 (((missing 3 2).station 127).missCount + 1) < s.params.lostAt
        ∧ ((missing 3 2).slot 31).retries < s.params.retryLimit)
      ∧ s.params.retryLimit ≤ ((missing 3 3).slot 31).retries :=
  ⟨ends_in_no_reply _ _ _ (frame .read 64) (by decide +kernel) (by decide +kernel), by decide +kernel⟩

/-- A standing read's frame, and one of a slot with cancel requested, end in the retries' last miss. -/
theorem witness_MissRetriesOrFails_standing :
    let at' (x : Slot) : State := sent (.exchange 31 127) (frame .read 64) .window (withHead { x with retries := 3 } served)
    let s := at' standing
    EndsInMiss s .a (.exchange 31 127) (.replyWindowExpiry .a) .noReply ∧ (s.slot 31).kind = .standingRead
      ∧ (s.slot 31).cancelRequested = false ∧ s.params.retryLimit ≤ (s.slot 31).retries
      ∧ min 15 ((s.station 127).missCount + 1) < s.params.lostAt
      ∧ ((at' { reading with cancelRequested := true }).slot 31).cancelRequested = true :=
  ⟨ends_in_no_reply _ _ _ (frame .read 64) (by decide +kernel) (by decide +kernel), by decide +kernel⟩

/-- A reply from another address, and 70 characters with an error before their reply's end (R156, R157). -/
theorem witness_EndsInMiss_damaged :
    EndsInMiss (replying reading .read served) .a (.exchange 31 127)
        (.replyTaken .a (replyCharacters 6 .ack false false 7 [])) .badReply
      ∧ EndsInMiss (replying reading .read served) .a (.exchange 31 127)
        (.replyTaken .a (⟨5, false⟩ :: List.replicate 69 ⟨0, true⟩)) .badReply
      ∧ EndsInMiss (replying reading .read served) .a (.exchange 31 127) (.replyGapTimeout .a) .badReply :=
  ⟨⟨_, rfl, rfl, .inr (.inr ⟨_, rfl, rfl, rfl, by decide +kernel, rfl,
      .inr ⟨6, rctrlByte .ack false false, 7, [], checkBytes [6, rctrlByte .ack false false, 7, 0], by decide,
        by decide +kernel, by decide +kernel, by decide +kernel⟩⟩)⟩,
    ⟨_, rfl, rfl, .inr (.inr ⟨_, rfl, rfl, rfl, by decide +kernel, rfl,
      .inl ⟨by decide, ⟨0, true⟩, by decide, .inr ⟨0, ⟨5, false⟩, by decide⟩⟩⟩)⟩,
    ⟨_, rfl, rfl, .inr (.inl (by decide +kernel))⟩⟩

theorem witness_PollEndsByReplyOrMiss :
    let s := sent (.poll 127) (pollFrame 5) .receiving served
    let lost := sent (.poll 127) (pollFrame 5) .window (with127 { member with state := .lost, missCount := 15 } ready)
    (Receiving s .a (.poll 127) (pollFrame 5) ∧ (pollFrame 5).kind = .poll ∧ (s.trunk .a).strayCount ≤ 65535
        ∧ (s.station 127).state = .active ∧ min 15 ((s.station 127).missCount + 1) < s.params.lostAt)
      ∧ (EndsInMiss lost .a (.poll 127) (.replyWindowExpiry .a) .noReply ∧ (lost.station 127).state = .lost)
      ∧ (s.station 127).state ≠ .lost
      ∧ s.params.lostAt ≤ min 15 (((sent (.poll 127) (pollFrame 5) .window (with127 { member with missCount := 4 }
          ready)).station 127).missCount + 1) := by
  refine ⟨by unfold Receiving; decide +kernel, ⟨ends_in_no_reply _ _ _ (pollFrame 5) (by decide +kernel)
    (by decide +kernel), by decide +kernel⟩, ?_, ?_⟩ <;> decide +kernel

/-- A POLL of a HELD station, whose miss may take it to LOST, and one of a RETIRING record. -/
theorem witness_PollEndsByReplyOrMiss_held :
    let at' (st : StationState) (count : Nat) (phase : FramePhase) : State :=
      sent (.poll 127) (pollFrame 5) phase (with127 { member with state := st, missCount := count } ready)
    (Receiving (at' .held 0 .receiving) .a (.poll 127) (pollFrame 5) ∧ ((at' .held 0 .receiving).station 127).state = .held)
      ∧ (at' .held 4 .window).params.lostAt ≤ min 15 (((at' .held 4 .window).station 127).missCount + 1)
      ∧ (Receiving (at' .retiring 0 .receiving) .a (.poll 127) (pollFrame 5)
        ∧ ((at' .retiring 0 .receiving).station 127).state = .retiring) := by
  unfold Receiving; decide +kernel

theorem queues_polled : QueuesLawful (sent (.poll 127) (pollFrame 5) .window (with127 { member with missCount := 4 } ready)) := by
  unfold QueuesLawful StationQueueLawful GroupQueueLawful
  refine ⟨?_, ?_, ?_, ?_, ?_⟩ <;> decide +kernel

theorem witness_ResyncOutcomesDecideState :
    let at' (repeats retries : Nat) (phase : FramePhase) : State := sent (.resync 127) (resyncFrame 5) phase
      (with127 { member with state := .recovering, resyncRepeats := repeats, resyncRetries := retries } ready)
    let s := at' 2 2 .receiving
    ((s.trunk .a).strayCount ≤ 65535 ∧ (s.station 127).queue = [] ∧ (s.station 127).state = .recovering
        ∧ Receiving s .a (.resync 127) (resyncFrame 5) ∧ (resyncFrame 5).kind = .resync
        ∧ (s.station 127).resyncRepeats < s.params.retryLimit)
      ∧ s.params.retryLimit ≤ ((at' 3 3 .receiving).station 127).resyncRepeats
      ∧ EndsInMiss (at' 3 3 .window) .a (.resync 127) (.replyWindowExpiry .a) .noReply
      ∧ (s.station 127).resyncRetries < s.params.retryLimit
      ∧ s.params.retryLimit ≤ ((at' 3 3 .window).station 127).resyncRetries := by
  refine ⟨by unfold Receiving; decide +kernel, by decide +kernel,
    ends_in_no_reply _ _ _ (resyncFrame 5) (by decide +kernel) (by decide +kernel), ?_, ?_⟩ <;> decide +kernel

/-- A RECOVERING station whose head slot waits in the state and at the step given, its RESYNC's reply being received. -/
def resyncing (st : SlotState) (step : PendingStep) : State :=
  sent (.resync 127) (resyncFrame 5) .receiving
    (withHead { reading with state := st, pendingStep := step } (with127 { member with state := .recovering } ready))

theorem queues_resyncing : QueuesLawful (resyncing .active (.retry .noReply)) := by
  unfold QueuesLawful StationQueueLawful GroupQueueLawful
  refine ⟨?_, ?_, ?_, ?_, ?_⟩ <;> decide +kernel

theorem witness_ResyncOutcomesDecideState_head :
    let s := resyncing .active (.retry .noReply)
    (Receiving s .a (.resync 127) (resyncFrame 5) ∧ (s.station 127).queue.head? = some 31 ∧ (s.slot 31).state = .active
        ∧ (s.slot 31).pendingStep = .retry .noReply ∧ (s.slot 31).kind ≠ .standingRead)
      ∧ ((resyncing .repeatWait .again).slot 31).state = .repeatWait
      ∧ ((resyncing .queued .first).slot 31).state = .queued := by
  unfold Receiving; decide +kernel

/-- The state after reset meets the premises of the invariants that hold under another's. -/
theorem queues_reset : QueuesLawful State.reset := by
  unfold QueuesLawful StationQueueLawful GroupQueueLawful
  refine ⟨?_, ?_, ?_, ?_, ?_⟩ <;> decide +kernel

theorem service_reset : ServiceOnce State.reset ∧ ServiceCountsLawful State.reset := by
  refine ⟨fun r => ?_, fun r => ?_⟩ <;> revert r <;> decide +kernel

/-- So does a state with an exchange in flight. -/
theorem flights_failing : FlightsLawful (failing member) := by
  have ha : (failing member).flightOwner .a = some (.exchange 31 127) := by decide +kernel
  have hb : (failing member).flightOwner .b = none := by decide +kernel
  refine ⟨fun u o h => ?_, by decide +kernel, by decide +kernel, by decide +kernel, by decide +kernel, by decide +kernel,
    fun u r h => ?_⟩
  · cases u with
    | a =>
      obtain rfl : FrameOwner.exchange 31 127 = o := by simpa [ha] using h
      unfold FlightLawful; decide +kernel
    | b => simp [hb] at h
  · have h0 : ∀ w, ((failing member).trunk w).resyncList = [] ∧ ((failing member).trunk w).pollDue = [] := by
      intro w; cases w <;> decide +kernel
    simp [h0 u] at h

theorem current_failing : CurrentTrunksLawful (failing member) := by
  have ha : (failing member).flightOwner .a = some (.exchange 31 127) := by decide +kernel
  have hb : (failing member).flightOwner .b = none := by decide +kernel
  have h0 : ∀ w, ((failing member).trunk w).pollDue = [] := by intro w; cases w <;> decide +kernel
  refine ⟨by unfold TrunkOf; decide +kernel, fun u r h => ?_⟩
  cases u <;> simp [h0, ha, hb] at h

end Sys2Proof.Tests
end

section
/-! Rules about the operations the commands share, each proved once: the end of a command, the argument fields, the
report of a change, the link lists, the completion of slots, and the service request. -/

namespace Sys2Proof.Machine

/-! ### The whole state and the end of a command -/

@[ext] theorem State.ext {s t : State} (pending : s.pending = t.pending) (port : s.port = t.port)
    (stations : s.stations = t.stations) (index : s.index = t.index) (slots : s.slots = t.slots)
    (groupQueue : s.groupQueue = t.groupQueue) (serviceLists : s.serviceLists = t.serviceLists)
    (serviceStack : s.serviceStack = t.serviceStack) (trunkA : s.trunkA = t.trunkA) (trunkB : s.trunkB = t.trunkB)
    (completions : s.completions = t.completions) (changeFlags : s.changeFlags = t.changeFlags)
    (seenMarks : s.seenMarks = t.seenMarks) (enableMask : s.enableMask = t.enableMask)
    (interruptLine : s.interruptLine = t.interruptLine) (buffer : s.buffer = t.buffer)
    (busRead : s.busRead = t.busRead) (freeCount : s.freeCount = t.freeCount) : s = t := by
  cases s; cases t; simp_all

/-- An accepted command whose body leaves the port alone ends with the body's code and values (R182). -/
theorem exec_of_body {i : Instr} {code : Nat} {body : Vector Word 6 → State → CmdResult} {s u : State}
    {c : ResultCode} {values : List Word} (hi : exec i s = runCommand code body s) (h : Accepted s code)
    (hb : body s.port.snapshot s = ⟨u, c, values⟩) (hp : u.port = s.port) :
    exec i s = .next (settle (finishCommand ⟨u, c, values⟩))
      ∧ Ends s (settle (finishCommand ⟨u, c, values⟩)) c values :=
  ⟨by rw [hi, runCommand_of_accepted h, hb], ends_of_port hp c values⟩

/-! ### Fields of the arguments -/

theorem argumentByte_eq_byteOf (s : State) (word : Fin 6) (k : Nat) :
    argumentByte s word k = byteOf s.port.snapshot[word] k := rfl

theorem isStationAddress_iff (b : Byte) : isStationAddress b = true ↔ 1 ≤ b.toNat ∧ b.toNat ≤ 239 := by
  simp [isStationAddress]

@[simp] theorem trunkOf_trunkCode (t : TrunkId) : trunkOf (trunkCode t) = some t := by cases t <;> rfl

@[simp] theorem altTrunkOf_altTrunkCode (t : Option TrunkId) : altTrunkOf (altTrunkCode t) = some t := by
  rcases t with _ | _ | _ <;> rfl

@[simp] theorem yesNoOf_flagCode (b : Bool) : yesNoOf (flagCode b) = some b := by cases b <;> rfl

@[simp] theorem pollClassOf_val (c : Fin 4) : pollClassOf c.val = some c := by simp [pollClassOf]

@[simp] theorem priorityOf_val (p : Fin 8) : priorityOf p.val = some p := by simp [priorityOf]

/-- Four good group bytes give the list of those that are not 0, in order (R5). -/
theorem groupsOf_of_good {w : Word} (h : badGroups ((List.range 4).map (byteOf w)) = false) :
    groupsOf w = some (((List.range 4).map (byteOf w)).filter (· ≠ 0)) := by
  obtain ⟨hrange, hnodup⟩ : (∀ g ∈ (List.range 4).map (byteOf w), g ≠ 0 → 240 ≤ g.toNat ∧ g.toNat ≤ 254)
      ∧ (((List.range 4).map (byteOf w)).filter (· ≠ 0)).Nodup := by
    simpa [badGroups] using h
  have hall : (((List.range 4).map (byteOf w)).filter (· ≠ 0)).all isGroupAddress = true := by
    simpa [isGroupAddress, or_iff_not_imp_left] using hrange
  exact if_pos ((Bool.and_eq_true _ _).mpr ⟨hall, decide_eq_true hnodup⟩)

/-- A record's handle in a result word (section 11.2). -/
theorem handleOf_setWidth (r : RecIdx) (g : Byte) : (handleOf r g).setWidth 32 = handleWord r g := by
  have hr := r.isLt
  have hg := g.isLt
  have hbyte : (BitVec.ofNat 8 r.val).toNat = r.val := by simp; omega
  have hor : g.toNat <<< 8 ||| r.val = r.val + 256 * g.toNat := by
    rw [← Nat.shiftLeft_add_eq_or_of_lt (by omega), Nat.shiftLeft_eq]; omega
  apply BitVec.eq_of_toNat_eq
  rw [handleOf, handleWord, BitVec.toNat_setWidth, BitVec.toNat_append, hbyte, hor, BitVec.toNat_ofNat]

/-! ### Changes of a record (R14, R193) -/

/-- A change of a record's state is reported (R14). -/
theorem changeStation_reported {s : State} {r : RecIdx} {f : Station → Station}
    (h : (f (s.station r)).state ≠ (s.station r).state) :
    changeStation s r f = report (s.modStation r f) r := by
  simp [changeStation, State.modStation, h.symm]

/-! ### The link lists of the trunks (R111) -/

theorem joinTail_eq_listed (l : List RecIdx) (r : RecIdx) : joinTail l r = listed l r := by
  by_cases h : r ∈ l <;> simp [joinTail, listed, h]

theorem leavePollDue_trunk (s : State) (r : RecIdx) (u : TrunkId) :
    (leavePollDue s r).trunk u = { s.trunk u with pollDue := (s.trunk u).pollDue.filter (· ≠ r) } := by
  cases u <;> rfl

theorem leaveResync_trunk (s : State) (r : RecIdx) (u : TrunkId) :
    (leaveResync s r).trunk u = { s.trunk u with resyncList := (s.trunk u).resyncList.filter (· ≠ r) } := by
  cases u <;> rfl

/-- A station joins the RESYNC list of its current trunk, and no other list changes (R124). -/
theorem requestResync_trunk (s : State) (r : RecIdx) (u : TrunkId) :
    (requestResync s r).trunk u = { s.trunk u with
      resyncList := if (s.station r).curTrunk = u then listed (s.trunk u).resyncList r else (s.trunk u).resyncList } := by
  unfold requestResync joinResync
  by_cases h : (s.station r).curTrunk = u
  · subst h
    simp [joinTail_eq_listed]
  · simp [h, Ne.symm h]

theorem requestResync_station (s : State) (r q : RecIdx) :
    (requestResync s r).station q =
      if q = r then { s.station r with resyncRetries := 0, resyncRepeats := 0, resyncWait := none }
      else s.station q := by
  simp [requestResync, State.modStation_station]

/-! ### Completion of slots (R46, R101) -/

theorem emptyFilling_eq (x : Role) : emptyFilling x = if x = .filling then .empty else x := by cases x <;> rfl

@[simp] theorem completed_kind (c : CompletionCode) (x : Slot) : (completed c x).kind = x.kind := rfl

@[simp] theorem completed_station (c : CompletionCode) (x : Slot) : (completed c x).station = x.station := rfl

@[simp] theorem completed_completed (c : CompletionCode) (x : Slot) : completed c (completed c x) = completed c x := by
  simp only [completed]
  grind

theorem completeSlot_slot (s : State) (n m : SlotIdx) (c : CompletionCode) :
    (completeSlot s n c).slot m = if m = n then completed c (s.slot n) else s.slot m := by
  have h := State.setSlot_slot s n m (completed c (s.slot n))
  unfold completeSlot
  simp only [emptyFilling_eq]
  split <;> exact h

theorem completeSlot_completions (s : State) (n : SlotIdx) (c : CompletionCode) :
    (completeSlot s n c).completions = s.completions.set n true := by
  unfold completeSlot
  dsimp only
  split <;> rfl

theorem completeSlot_groupQueue {s : State} {n : SlotIdx} (c : CompletionCode) (hk : (s.slot n).kind ≠ .groupWrite) :
    (completeSlot s n c).groupQueue = s.groupQueue := by
  simp [completeSlot, hk]

theorem completeSlot_station {s : State} {n : SlotIdx} (c : CompletionCode) (q : RecIdx)
    (hk : (s.slot n).kind ≠ .groupWrite) :
    (completeSlot s n c).station q =
      if q = (s.slot n).station then { s.station q with queue := (s.station q).queue.filter (· ≠ n) }
      else s.station q := by
  have h := State.modStation_station s (s.slot n).station q fun y => { y with queue := without y.queue n }
  simp only [completeSlot, hk, if_false]
  refine Eq.trans h ?_
  split
  · next e => subst e; rfl
  · rfl

/-- The slots of a list are exchanges of the station. -/
def ExchangesOf (s : State) (r : RecIdx) (l : List SlotIdx) : Prop :=
  ∀ n ∈ l, (s.slot n).kind ≠ .groupWrite ∧ (s.slot n).station = r

/-- Completing a slot changes no slot's kind or station. -/
theorem ExchangesOf.completeSlot {s : State} {r : RecIdx} {l : List SlotIdx} (h : ExchangesOf s r l) (n : SlotIdx)
    (c : CompletionCode) : ExchangesOf (completeSlot s n c) r l := by
  intro m hm
  rw [completeSlot_slot]
  split
  · next e => subst e; simpa using h m hm
  · exact h m hm

theorem completeAll_slot (s : State) (l : List SlotIdx) (code : SlotIdx → CompletionCode) (m : SlotIdx) :
    (completeAll s l code).slot m = if m ∈ l then completed (code m) (s.slot m) else s.slot m := by
  induction l generalizing s with
  | nil => simp [completeAll]
  | cons n l ih =>
    rw [completeAll, ih, completeSlot_slot]
    by_cases hn : m = n
    · subst hn; simp
    · simp [hn]

theorem completeAll_completions (s : State) (l : List SlotIdx) (code : SlotIdx → CompletionCode) (m : SlotIdx) :
    (completeAll s l code).completions[m] = (s.completions[m] || decide (m ∈ l)) := by
  induction l generalizing s with
  | nil => simp [completeAll]
  | cons n l ih =>
    rw [completeAll, ih, completeSlot_completions]
    by_cases hn : m = n
    · subst hn; simp
    · have hv : n.val ≠ m.val := fun e => hn (Fin.ext e.symm)
      simp [hn, hv]

theorem completeAll_groupQueue {s : State} {r : RecIdx} {l : List SlotIdx} (code : SlotIdx → CompletionCode)
    (h : ExchangesOf s r l) : (completeAll s l code).groupQueue = s.groupQueue := by
  induction l generalizing s with
  | nil => rfl
  | cons n l ih =>
    obtain ⟨⟨hk, _⟩, hl⟩ := List.forall_mem_cons.mp h
    rw [completeAll, ih (ExchangesOf.completeSlot hl n _), completeSlot_groupQueue _ hk]

/-- Completing exchanges of one station takes them off its queue and changes no other record (R46). -/
theorem completeAll_station {s : State} {r : RecIdx} {l : List SlotIdx} (code : SlotIdx → CompletionCode)
    (h : ExchangesOf s r l) (q : RecIdx) :
    (completeAll s l code).station q =
      if q = r then { s.station q with queue := (s.station q).queue.filter (· ∉ l) } else s.station q := by
  induction l generalizing s with
  | nil => simp [completeAll]
  | cons n l ih =>
    obtain ⟨⟨hk, hr⟩, hl⟩ := List.forall_mem_cons.mp h
    rw [completeAll, ih (ExchangesOf.completeSlot hl n _), completeSlot_station _ _ hk, hr]
    by_cases hq : q = r
    · simp only [hq, if_true, List.filter_filter]
      congr 2
      funext m
      simp [Bool.and_comm]
    · simp [hq]

/-! ### The service request (R120, R131) -/

theorem inService_iff (s : State) (r : RecIdx) : inService s r = true ↔ ∃ e ∈ s.serviceStack, e.record = r := by
  simp [inService]

theorem dropRequest_serviceLists (s : State) (r : RecIdx) (p : Fin 8) :
    (dropRequest s r).serviceLists[p] = s.serviceLists[p].filter (· ≠ r) := by
  simp [dropRequest, leavePending, without]

theorem dropRequest_station (s : State) (r q : RecIdx) :
    (dropRequest s r).station q = if q = r then { s.station r with coalesce := 0 } else s.station q := by
  simp [dropRequest, State.modStation_station]

end Sys2Proof.Machine
end

section
/-! The Station Directory: ENROL, FIND, HOLD and RETIRE (R20, R21, R22, R28, R30, R31). -/

namespace Sys2Proof.Machine

/-- The handle argument of a directory command passes the checks of R2 when it names a record. -/
theorem checkHandle_argument {s : State} {r : RecIdx} (hn : Names s (handleArgument s) r) :
    checkHandle s (lowHalf s.port.snapshot[0]) = .ok r :=
  checkHandle_names hn

/-! ### FIND (R22) -/

theorem findBody_badAddress {s : State} (ha : isStationAddress (argumentByte s 0 0) = false) :
    findBody s.port.snapshot s = refuse s .badArgument := by
  rw [argumentByte_eq_byteOf] at ha
  simp_all [findBody]

theorem findBody_unmapped {s : State} (ha : isStationAddress (argumentByte s 0 0) = true)
    (hr : s.indexOf (argumentByte s 0 0) = none) :
    findBody s.port.snapshot s = refuse s .noSuchAddress := by
  rw [argumentByte_eq_byteOf] at ha hr
  simp_all [findBody]

theorem findBody_mapped {s : State} {r : RecIdx} (ha : isStationAddress (argumentByte s 0 0) = true)
    (hr : s.indexOf (argumentByte s 0 0) = some r) :
    findBody s.port.snapshot s
      = answer s [handleWord r (s.station r).generation, num (stationStateCode (s.station r).state)] := by
  rw [argumentByte_eq_byteOf] at ha hr
  simp_all [findBody, handleOf_setWidth]

/-- Settles O15, by the three outcomes of FIND's checks. -/
theorem findReturnsHandle : Obligations.FindReturnsHandle := by
  intro s h
  refine ⟨fun ha => ?_, fun ha hr => ?_, fun ha r hr => ?_⟩
  · have hbad : ¬isStationAddress (argumentByte s 0 0) = true := by
      rw [isStationAddress_iff]
      rcases ha with h0 | h240
      · simp [h0]
      · omega
    exact refused_of_body rfl h (findBody_badAddress (Bool.eq_false_iff.mpr hbad))
  · exact refused_of_body rfl h (findBody_unmapped ((isStationAddress_iff _).mpr ha) hr)
  · obtain ⟨hexec, hends⟩ := exec_of_body (i := .find) rfl h (findBody_mapped ((isStationAddress_iff _).mpr ha) hr) rfl
    exact ⟨_, hexec, hends, rfl⟩

/-! ### HOLD (R28) -/

theorem holdBody_names {s : State} {r : RecIdx} (hn : Names s (handleArgument s) r) :
    holdBody s.port.snapshot s =
      if (s.station r).state = .active ∨ (s.station r).state = .suspect then answer (holdStation s r) []
      else refuse s .stationState := by
  simp only [holdBody, checkHandle_argument hn]

/-- HOLD of a station that is not HELD reports the change (R28). -/
theorem holdStation_eq {s : State} {r : RecIdx} (h : (s.station r).state ≠ .held) :
    holdStation s r = leavePollDue (report (s.modStation r fun x =>
      { x with state := .held, pollTimer := none, resyncNeeded := false }) r) r := by
  rw [holdStation, changeStation_reported h.symm]

/-- Settles O18: HOLD changes the one record, reports it and clears the poll-due lists. -/
theorem holdStopsService : Obligations.HoldStopsService := by
  intro s r h hn
  have hbody := holdBody_names hn
  refine ⟨fun hx => refused_of_body rfl h (hbody.trans (if_neg (not_or.mpr hx))), fun hx => ?_⟩
  have heff := holdStation_eq (s := s) (r := r) (by rcases hx with hx | hx <;> simp [hx])
  obtain ⟨hexec, hends⟩ := exec_of_body (i := .hold) rfl h (hbody.trans (if_pos hx)) (by simp)
  refine ⟨_, hexec, hends, ?_, fun q hq => ?_, ?_, fun u => ?_, ?_⟩
  · simp [heff]
  · simp [heff, hq]
  · simp [heff, Reported, report]
  · simp [heff, leavePollDue_trunk]
  · ext1 <;> simp

/-! ### ENROL (R19 to R21) -/

theorem lowestVacant_eq {s : State} {r : RecIdx} (hr : (s.station r).state = .vacant)
    (hlow : ∀ q, q < r → (s.station q).state ≠ .vacant) : lowestVacant s = some r := by
  rw [lowestVacant, allRecords, List.find?_eq_some_iff_getElem]
  refine ⟨by simpa using hr, r.val, by simp, by simp, fun j hj => ?_⟩
  simpa using hlow ⟨j, hj.trans r.isLt⟩ hj

/-- The trunk ENROL chooses (R21). -/
theorem enrolTrunk_eq (s : State) (e : EnrolArgs) :
    enrolTrunk s e = if (s.trunk e.home).state = .online then some e.home
      else e.alt.filter fun u => (s.trunk u).state = .online := by
  unfold enrolTrunk State.isOnline
  cases e.alt <;> simp [Option.filter_some]

/-- The argument words spell the decoded arguments (Table 11-3). -/
structure EnrolArgs.SpelledBy (e : EnrolArgs) (s : State) : Prop where
  address : argumentByte s 0 0 = e.address
  home : (argumentByte s 0 1).toNat = trunkCode e.home
  alt : (argumentByte s 0 2).toNat = altTrunkCode e.alt
  pollClass : (argumentByte s 0 3).toNat = e.pollClass.val
  groups : groupsOf s.port.snapshot[2] = some e.groups
  priority : (argumentByte s 1 0).toNat = e.priority.val
  vector : argumentByte s 1 1 = e.vector
  armed : (argumentByte s 1 2).toNat = flagCode e.armed

/-- An ENROL whose arguments are good passes the six checks of R19. -/
theorem checkEnrol_good {s : State} {r : RecIdx} {e : EnrolArgs} (h : e.SpelledBy s)
    (hstation : isStationAddress e.address = true) (hfree : s.indexOf e.address = none) (hne : e.alt ≠ some e.home)
    (hvacant : lowestVacant s = some r) : checkEnrol s.port.snapshot s = .ok (r, e) := by
  have haddr : byteOf s.port.snapshot[0] 0 = _ := h.address
  have hhome : field s.port.snapshot[0] 1 = _ := h.home
  have halt : field s.port.snapshot[0] 2 = _ := h.alt
  have hclass : field s.port.snapshot[0] 3 = _ := h.pollClass
  have hprio : field s.port.snapshot[1] 0 = _ := h.priority
  have hvector : byteOf s.port.snapshot[1] 1 = _ := h.vector
  have harmed : field s.port.snapshot[1] 2 = _ := h.armed
  simp [checkEnrol, haddr, hstation, hfree, hhome, halt, hne, h.groups, hclass, hprio, hvector, harmed, hvacant]

/-- The record as ENROL leaves it, by the trunk chosen (R20, R21). -/
def enrolledRecord (s : State) (e : EnrolArgs) (x : Station) : Station :=
  let chosen := enrolTrunk s e
  enrolledStation e (if chosen.isSome then .enrolling else .lost) (chosen.getD e.home)
    (if chosen.isSome then .none else .trunkDown)
    (if chosen.isSome then none else startTimer s.params.probePeriod) x

/-- The directory after ENROL, less the request of a RESYNC (R20, R193). -/
def enrolFilled (s : State) (r : RecIdx) (e : EnrolArgs) : State :=
  report ((s.setIndex e.address (some r)).modStation r (enrolledRecord s e)) r

theorem enrolStation_eq {s : State} {r : RecIdx} {e : EnrolArgs} (hv : (s.station r).state = .vacant) :
    enrolStation s r e =
      if (enrolTrunk s e).isSome then requestResync (enrolFilled s r e) r else enrolFilled s r e := by
  have hidx : enrolTrunk (s.setIndex e.address (some r)) e = enrolTrunk s e := rfl
  unfold enrolStation enrolFilled enrolledRecord
  dsimp only
  rw [hidx]
  cases enrolTrunk s e with
  | none => exact changeStation_reported (by simp [hv, enrolledStation])
  | some t => exact congrArg (requestResync · r) (changeStation_reported (by simp [hv, enrolledStation]))

theorem enrolStation_station {s : State} {r : RecIdx} {e : EnrolArgs} (hv : (s.station r).state = .vacant)
    (q : RecIdx) :
    (enrolStation s r e).station q = if q = r then enrolledRecord s e (s.station r) else s.station q := by
  rw [enrolStation_eq hv]
  by_cases hq : q = r
  · subst hq
    cases hc : enrolTrunk s e <;>
      simp [hc, enrolFilled, enrolledRecord, enrolledStation, requestResync_station]
  · cases hc : enrolTrunk s e <;> simp [hq, enrolFilled, requestResync_station]

theorem enrolStation_trunk {s : State} {r : RecIdx} {e : EnrolArgs} (hv : (s.station r).state = .vacant)
    (u : TrunkId) :
    (enrolStation s r e).trunk u = { s.trunk u with
      resyncList := if enrolTrunk s e = some u then listed (s.trunk u).resyncList r else (s.trunk u).resyncList } := by
  rw [enrolStation_eq hv]
  cases hc : enrolTrunk s e with
  | none => simp [enrolFilled]
  | some t => simp [requestResync_trunk, enrolFilled, enrolledRecord, enrolledStation, hc]

theorem enrolStation_reported {s : State} {r : RecIdx} {e : EnrolArgs} (hv : (s.station r).state = .vacant) :
    Reported r s (enrolStation s r e) := by
  rw [enrolStation_eq hv]
  split <;> simp [Reported, enrolFilled, report]

theorem enrolStation_indexOf {s : State} {r : RecIdx} {e : EnrolArgs} (hv : (s.station r).state = .vacant)
    (b : Byte) :
    (enrolStation s r e).indexOf b = if b = e.address then some r else s.indexOf b := by
  rw [enrolStation_eq hv]
  split <;> simp [enrolFilled, State.setIndex_indexOf]

/-- An ENROL that passes its checks answers the handle and the state of the record it fills (R20). -/
theorem enrolBody_accepted {s : State} {r : RecIdx} {e : EnrolArgs}
    (hcheck : checkEnrol s.port.snapshot s = .ok (r, e)) (hv : (s.station r).state = .vacant) :
    enrolBody s.port.snapshot s = answer (enrolStation s r e)
      [handleWord r (s.station r).generation, num (stationStateCode (enrolledRecord s e (s.station r)).state)] := by
  have hgen : (enrolledRecord s e (s.station r)).generation = (s.station r).generation := rfl
  simp [enrolBody, hcheck, enrolStation_station hv, hgen, handleOf_setWidth]

/-- The decoded arguments of an ENROL whose coded fields stand for the values given. -/
def enrolArguments (s : State) (home : TrunkId) (alt : Option TrunkId) (pollClass : Fin 4) (priority : Fin 8)
    (armed : Bool) : EnrolArgs :=
  ⟨argumentByte s 0 0, home, alt, pollClass, (groupBytes s 2).filter (· ≠ 0), priority, argumentByte s 1 1, armed⟩

/-- Settles O13: the good arguments pass the checks, and the effect is read off field by field. -/
theorem enrolFillsLowestVacantRecord : Obligations.EnrolFillsLowestVacantRecord := by
  intro s r home alt pollClass priority armed h h1 h239 hfree hhome halt hne hgroups hclass hprio harmed hv hlow
  have hspelled : (enrolArguments s home alt pollClass priority armed).SpelledBy s :=
    ⟨rfl, hhome, halt, hclass, groupsOf_of_good (w := s.port.snapshot[2]) hgroups, hprio, rfl, harmed⟩
  have hcheck := checkEnrol_good hspelled ((isStationAddress_iff _).mpr ⟨h1, h239⟩) hfree hne (lowestVacant_eq hv hlow)
  obtain ⟨hexec, hends⟩ := exec_of_body (i := .enrol) rfl h (enrolBody_accepted hcheck hv) (by simp)
  intro chosen entered
  have hchosen : enrolTrunk s (enrolArguments s home alt pollClass priority armed) = chosen := enrolTrunk_eq s _
  clear_value chosen
  subst hchosen
  refine ⟨_, hexec, hends, ?_, fun q hq => ?_, ?_, fun b => ?_, fun u => ?_, ?_⟩
  · exact (enrolStation_station hv r).trans (if_pos rfl)
  · exact (enrolStation_station hv q).trans (if_neg hq)
  · exact enrolStation_reported hv
  · exact enrolStation_indexOf hv b
  · simp [enrolStation_trunk hv]
  · ext1 <;> simp

/-! ### RETIRE (R30, R31) -/

theorem standingWaitOf_eq (s : State) (r : RecIdx) :
    standingWaitOf s r
      = allSlots.filter fun n => decide ((s.slot n).state = .standingWait ∧ (s.slot n).station = r) := by
  simp [standingWaitOf, Bool.decide_and]

theorem mem_standingWaitOf {s : State} {r : RecIdx} {n : SlotIdx} :
    n ∈ standingWaitOf s r ↔ (s.slot n).state = .standingWait ∧ (s.slot n).station = r := by
  simp [standingWaitOf, allSlots]

theorem mem_retireSlots {s : State} {r : RecIdx} {n : SlotIdx} :
    n ∈ retireSlots s r ↔ n ∈ ((s.station r).queue.filter fun n => !slotInFlight s n) ∨ n ∈ standingWaitOf s r := by
  simp [retireSlots]

/-- What RETIRE completes are exchanges of the station (R31, R51, R53). -/
theorem retireSlots_exchangesOf {s : State} (hq : QueuesLawful s) (r : RecIdx) :
    ExchangesOf s r (retireSlots s r) := by
  obtain ⟨hqueue, _, hstanding, _, _⟩ := hq
  intro n hn
  rcases mem_retireSlots.mp hn with hn | hn
  · obtain ⟨hstation, hkind, _⟩ := (hqueue r).2 n (List.mem_of_mem_filter hn)
    exact ⟨hkind, hstation⟩
  · obtain ⟨hwait, hstation⟩ := mem_standingWaitOf.mp hn
    exact ⟨by simp [hstanding n hwait], hstation⟩

/-- A slot of the queue is completed by RETIRE exactly when no frame of it is in flight: none of them is in STANDING_WAIT
(R31, R53). -/
theorem queue_filter_retireSlots {s : State} (hq : QueuesLawful s) (r : RecIdx) :
    (s.station r).queue.filter (· ∉ retireSlots s r) = (s.station r).queue.filter fun n => slotInFlight s n := by
  obtain ⟨hqueue, _⟩ := hq
  refine List.filter_congr fun n hn => ?_
  obtain ⟨_, _, hstate⟩ := (hqueue r).2 n hn
  have hwait : n ∉ standingWaitOf s r := by
    intro h
    obtain ⟨h, _⟩ := mem_standingWaitOf.mp h
    simp [h] at hstate
  simp [mem_retireSlots, hn, hwait]

/-- The record after RETIRE has cleared it, less its fate (R31). -/
def clearedRecord (s : State) (x : Station) : Station :=
  { x with
    pollTimer := none, resyncWait := none, queue := x.queue.filter fun n => slotInFlight s n, coalesce := 0
    reRaise := false }

theorem clearStation_station {s : State} (hq : QueuesLawful s) (r q : RecIdx) :
    (clearStation s r).station q = if q = r then clearedRecord s (s.station r) else s.station q := by
  have hall := completeAll_station (fun _ => .retired) (retireSlots_exchangesOf hq r)
  by_cases h : q = r
  · subst h
    simp [clearStation, dropRequest_station, hall, clearedRecord, ← queue_filter_retireSlots hq]
  · simp [clearStation, dropRequest_station, hall, h]

theorem clearStation_slot (s : State) (r : RecIdx) (n : SlotIdx) :
    (clearStation s r).slot n = if n ∈ retireSlots s r then completed .retired (s.slot n) else s.slot n := by
  simp [clearStation, completeAll_slot]

theorem clearStation_completions (s : State) (r : RecIdx) (n : SlotIdx) :
    (clearStation s r).completions[n] = (s.completions[n] || decide (n ∈ retireSlots s r)) := by
  simpa [clearStation] using completeAll_completions s (retireSlots s r) (fun _ => .retired) n

theorem clearStation_groupQueue {s : State} (hq : QueuesLawful s) (r : RecIdx) :
    (clearStation s r).groupQueue = s.groupQueue := by
  simp [clearStation, completeAll_groupQueue _ (retireSlots_exchangesOf hq r)]

theorem clearStation_serviceLists (s : State) (r : RecIdx) (p : Fin 8) :
    (clearStation s r).serviceLists[p] = s.serviceLists[p].filter (· ≠ r) := by
  simpa [clearStation] using dropRequest_serviceLists (completeAll s (retireSlots s r) fun _ => .retired) r p

theorem clearStation_trunk (s : State) (r : RecIdx) (u : TrunkId) :
    (clearStation s r).trunk u = { s.trunk u with
      resyncList := (s.trunk u).resyncList.filter (· ≠ r), pollDue := (s.trunk u).pollDue.filter (· ≠ r) } := by
  simp [clearStation, leaveResync_trunk, leavePollDue_trunk]

/-- The record's fate: RETIRING while a frame for it is in flight, else VACANT with its generation advanced (R31). -/
def retiredRecord (stays : Bool) (x : Station) : Station :=
  { x with
    state := if stays then .retiring else .vacant, generation := if stays then x.generation else x.generation + 1
    resyncNeeded := false, pollTimer := none }

/-- The effect of an accepted RETIRE (R31). -/
def retireStation (s : State) (r : RecIdx) : State :=
  let t := report ((clearStation s r).modStation r (retiredRecord (frameInFlight s r))) r
  if frameInFlight s r then t else t.setIndex (s.station r).address none

/-- An occupied record that is vacated loses its index entry, and the change is reported (R3, R4, R14). -/
theorem vacate_eq {s : State} {r : RecIdx} (h : (s.station r).state ≠ .vacant) :
    vacate s r = (report (s.modStation r (retiredRecord false)) r).setIndex (s.station r).address none := by
  rw [vacate, changeStation_reported h.symm]
  rfl

/-- A record that becomes RETIRING is reported; its poll timer was stopped before (R14, R31). -/
theorem changeStation_retiring {s : State} {r : RecIdx} (h : (s.station r).state ≠ .retiring)
    (hp : (s.station r).pollTimer = none) :
    changeStation s r (fun x => { x with state := .retiring, resyncNeeded := false })
      = report (s.modStation r (retiredRecord true)) r := by
  rw [changeStation_reported h.symm]
  simp [State.modStation, retiredRecord, hp]

/-- A RETIRE that passes its checks has the effect, and answers the number of slots completed (R30, R31). -/
theorem retireBody_accepted {s : State} {r : RecIdx} (hn : Names s (handleArgument s) r)
    (hx : (s.station r).state ≠ .retiring) (hs : inService s r = false) (hq : QueuesLawful s) :
    retireBody s.port.snapshot s = ⟨retireStation s r, if frameInFlight s r then .retiring else .retired,
      [num (retireSlots s r).length]⟩ := by
  have hcheck := checkHandle_argument hn
  have hclear : (clearStation s r).station r = clearedRecord s (s.station r) :=
    (clearStation_station hq r r).trans (if_pos rfl)
  simp only [retireBody, hcheck, hx, hs, retireStation]
  cases frameInFlight s r with
  | true =>
    have hretiring : ((clearStation s r).station r).state ≠ .retiring := by rwa [hclear]
    simp [changeStation_retiring hretiring (by rw [hclear]; rfl)]
  | false =>
    have hoccupied : ((clearStation s r).station r).state ≠ .vacant := by
      obtain ⟨_, _, hv, _⟩ := hn
      rwa [hclear]
    simp [vacate_eq hoccupied, hclear, clearedRecord]

theorem retireStation_station {s : State} (hq : QueuesLawful s) (r q : RecIdx) :
    (retireStation s r).station q =
      if q = r then retiredRecord (frameInFlight s r) (clearedRecord s (s.station r)) else s.station q := by
  unfold retireStation
  split <;> by_cases h : q = r <;> simp [h, clearStation_station hq]

theorem retireStation_indexOf (s : State) (r : RecIdx) (b : Byte) :
    (retireStation s r).indexOf b =
      if frameInFlight s r = false ∧ b = (s.station r).address then none else s.indexOf b := by
  unfold retireStation
  split <;> simp_all [State.setIndex_indexOf]

theorem retireStation_reported (s : State) (r : RecIdx) : Reported r s (retireStation s r) := by
  unfold retireStation
  split <;> simp [Reported, report]

@[simp] theorem retireStation_frame (s : State) (r : RecIdx) :
    (retireStation s r).pending = s.pending ∧ (retireStation s r).port = s.port ∧
    (retireStation s r).groupQueue = (clearStation s r).groupQueue ∧
    (retireStation s r).serviceLists = (clearStation s r).serviceLists ∧
    (retireStation s r).serviceStack = s.serviceStack ∧
    (retireStation s r).completions = (clearStation s r).completions ∧
    (retireStation s r).enableMask = s.enableMask ∧ (retireStation s r).buffer = s.buffer ∧
    (retireStation s r).busRead = s.busRead ∧ (retireStation s r).freeCount = s.freeCount ∧
    (∀ n, (retireStation s r).slot n = (clearStation s r).slot n) ∧
    ∀ u, (retireStation s r).trunk u = (clearStation s r).trunk u := by
  unfold retireStation
  split <;> simp

/-- Settles O20: after the checks, every field is read off the effect of `retireStation`. -/
theorem retireVacatesOrWaits : Obligations.RetireVacatesOrWaits := by
  intro s r h hn
  have hcheck := checkHandle_argument hn
  refine ⟨fun hx => refused_of_body rfl h ?_, fun hx hs => refused_of_body rfl h ?_, fun hx hs hq => ?_⟩
  · simp only [retireBody, hcheck]
    exact if_pos hx
  · simp only [retireBody, hcheck]
    rw [if_neg hx, if_pos ((inService_iff s r).mpr hs)]
  · have hidle : inService s r = false := Bool.eq_false_iff.mpr fun h => by
      obtain ⟨e, he, her⟩ := (inService_iff s r).mp h
      exact hs e he her
    intro inQueue atRest stays
    have hrest : standingWaitOf s r = atRest := standingWaitOf_eq s r
    have hmem (n : SlotIdx) : n ∈ retireSlots s r ↔ n ∈ inQueue ∨ n ∈ atRest := hrest ▸ mem_retireSlots
    have hcount : (retireSlots s r).length = inQueue.length + atRest.length := by
      rw [← hrest]; exact List.length_append
    have hbody := retireBody_accepted hn hx hidle hq
    rw [hcount] at hbody
    obtain ⟨hexec, hends⟩ := exec_of_body (i := .retire) rfl h hbody (by simp)
    refine ⟨_, hexec, hends, fun n => ?_, fun n => ?_, ?_, fun q hne => ?_, ?_, fun b => ?_, fun p => ?_, fun u => ?_,
      ?_⟩
    · simp [clearStation_slot, hmem]
    · simpa [hmem] using clearStation_completions s r n
    · exact (retireStation_station hq r r).trans (if_pos rfl)
    · exact (retireStation_station hq r q).trans (if_neg hne)
    · exact retireStation_reported s r
    · exact retireStation_indexOf s r b
    · simpa using clearStation_serviceLists s r p
    · simp [clearStation_trunk]
    · ext1 <;> simp [clearStation_groupQueue hq]

end Sys2Proof.Machine
end

section
/-! Checks made in order, slot numbers, the kinds' numbers, and the words of a result record: the rules that the
exchange commands share (R34, R48, Tables 11-5 and 11-7). -/

namespace Sys2Proof.Machine

/-! ### Checks made in order -/

@[simp] theorem firstFailure_nil : firstFailure [] = none := rfl

@[simp] theorem firstFailure_cons (fails : Bool) (c : ResultCode) (rest : List (Bool × ResultCode)) :
    firstFailure ((fails, c) :: rest) = if fails then some c else firstFailure rest := rfl

/-- Later checks count only when the earlier ones pass. -/
theorem firstFailure_append (first rest : List (Bool × ResultCode)) :
    firstFailure (first ++ rest) = (firstFailure first).or (firstFailure rest) := by
  induction first with
  | nil => rfl
  | cons check first ih =>
    obtain ⟨fails, c⟩ := check
    cases fails <;> simp [ih]

/-- A slot number that passes the checks of R34 names a slot in use. -/
theorem slot_of_slotChecks {s : State} (h : firstFailure (slotChecks s) = none) :
    ∃ n : SlotIdx, n.val = (argumentByte s 0 0).toNat ∧ (s.slot n).state ≠ .free := by
  simp only [slotChecks, firstFailure_cons, firstFailure_nil] at h
  split at h
  · cases h
  · split at h
    · cases h
    · next hfree => simpa using hfree

/-! ### Kinds as numbers (Table 11-5) -/

/-- The number of an exchange kind, the inverse of `kindOf`. -/
def kindNumber : ExchangeKind → Nat
  | .read => 1
  | .write => 2
  | .control => 3
  | .sweepRead => 4
  | .groupWrite => 5
  | .standingRead => 6

theorem eq_kindNumber_of_kindOf {n : Nat} {k : ExchangeKind} (h : kindOf n = some k) : n = kindNumber k := by
  unfold kindOf at h
  split at h <;> cases h <;> rfl

theorem kindOf_eq_none_iff (n : Nat) : kindOf n = none ↔ n = 0 ∨ 6 < n := by
  match n with
  | 0 | 1 | 2 | 3 | 4 | 5 | 6 => simp [kindOf]
  | n + 7 => simp [kindOf]

theorem kindNumber_eq_four_iff (k : ExchangeKind) : kindNumber k = 4 ↔ k = .sweepRead := by
  cases k <;> simp [kindNumber]

theorem kindNumber_eq_five_iff (k : ExchangeKind) : kindNumber k = 5 ↔ k = .groupWrite := by
  cases k <;> simp [kindNumber]

theorem kindNumber_eq_six_iff (k : ExchangeKind) : kindNumber k = 6 ↔ k = .standingRead := by
  cases k <;> simp [kindNumber]

/-! ### Words of a result record (Table 11-7) -/

/-- Two bytes make a halfword. -/
theorem ofNat_two_bytes {lo : Nat} (h : lo < 256) (hi : Nat) :
    BitVec.ofNat 16 (lo + 256 * hi) = BitVec.ofNat 8 hi ++ BitVec.ofNat 8 lo := by
  apply BitVec.eq_of_toNat_eq
  have hlo : lo % 2 ^ 8 < 2 ^ 8 := Nat.mod_lt _ (by decide)
  rw [BitVec.toNat_append, BitVec.toNat_ofNat, BitVec.toNat_ofNat, BitVec.toNat_ofNat,
    ← Nat.shiftLeft_add_eq_or_of_lt hlo, Nat.shiftLeft_eq]
  omega

/-- A word is its high halfword above its low one. -/
theorem halves_eq_append (lo hi : Nat) : halves lo hi = BitVec.ofNat 16 hi ++ BitVec.ofNat 16 lo := by
  apply BitVec.eq_of_toNat_eq
  have hlo : lo % 2 ^ 16 < 2 ^ 16 := Nat.mod_lt _ (by decide)
  rw [halves, num, BitVec.toNat_append, BitVec.toNat_ofNat, BitVec.toNat_ofNat, BitVec.toNat_ofNat,
    ← Nat.shiftLeft_add_eq_or_of_lt hlo, Nat.shiftLeft_eq]
  omega

theorem ofNat_flagCode (b : Bool) : BitVec.ofNat 8 (flagCode b) = if b then 1 else 0 := by cases b <;> rfl

end Sys2Proof.Machine
end

section
/-! The exchange commands SUBMIT and COLLECT (R34, R48 to R51, R62, R63). -/

namespace Sys2Proof.Machine

/-! ### SUBMIT (R48 to R51)

The checks of R48 fall into groups that the Exchange Engine makes one after another. Each group is named here over the
kind's number, and tied to the model's function that makes it. -/

/-! The fields of a SUBMIT, as the checks name them (Table 11-3). -/

@[simp] theorem submitArgs_kind (s : State) : (submitArgs s.port.snapshot).kind = (argumentByte s 0 0).toNat := rfl
@[simp] theorem submitArgs_target (s : State) : (submitArgs s.port.snapshot).target = targetArgument s := rfl
@[simp] theorem submitArgs_readyMode (s : State) :
    (submitArgs s.port.snapshot).readyMode = (argumentByte s 0 1).toNat := rfl
@[simp] theorem submitArgs_repeatLimit (s : State) :
    (submitArgs s.port.snapshot).repeatLimit = (argumentByte s 0 2).toNat := rfl
@[simp] theorem submitArgs_length (s : State) : (submitArgs s.port.snapshot).length = argumentHalf s 2 := rfl
@[simp] theorem submitArgs_segmentSize (s : State) :
    (submitArgs s.port.snapshot).segmentSize = (argumentByte s 2 2).toNat := rfl
@[simp] theorem submitArgs_offset (s : State) : (submitArgs s.port.snapshot).offset = argumentHalf s 3 := rfl
@[simp] theorem submitArgs_offset2 (s : State) : (submitArgs s.port.snapshot).offset2 = (argumentHigh s 3).toNat := rfl
@[simp] theorem submitArgs_period (s : State) : (submitArgs s.port.snapshot).period = argumentHalf s 4 := rfl

/-- The second and third checks: the target (R49). -/
def targetChecks (s : State) (kind : Nat) (target : BitVec 16) : List (Bool × ResultCode) :=
  let x := s.station (handleIndex target)
  [ (decide (kind ≠ 5) && target.getLsbD 7, .badArgument),
    (decide (kind ≠ 5 ∧ (x.state = .vacant ∨ x.generation ≠ target.extractLsb' 8 8)), .staleHandle),
    (decide (kind = 5 ∧ ¬(240 ≤ target.toNat ∧ target.toNat ≤ 255)), .badArgument),
    (decide (kind ≠ 5 ∧ x.state = .lost), .stationLost),
    (decide (kind ≠ 5 ∧ x.state = .retiring), .stationState) ]

/-- The fourth check fails: a value lies outside Table 2-4 (R50). -/
def badValues (s : State) (kind : Nat) : Bool :=
  let mode := (argumentByte s 0 1).toNat
  let length := argumentHalf s 2
  let segment := (argumentByte s 2 2).toNat
  decide ((kind ≠ 3 ∧ length = 0) ∨ (if kind = 3 ∨ kind = 5 then 64 else 1024) < length
    ∨ (kind = 4 ∧ (segment = 0 ∨ 64 < segment))
    ∨ (kind = 6 ∧ (mode ≠ 0 ∨ argumentHalf s 4 = 0))
    ∨ (kind ≠ 5 ∧ (2 < mode ∨ (mode = 1 ∧ argumentByte s 0 2 = 0))))

/-- The fifth check fails: a buffer does not fit, or the buffers of a standing read overlap (R50). -/
def badBuffers (s : State) (kind : Nat) : Bool :=
  let length := argumentHalf s 2
  let offset := argumentHalf s 3
  let offset2 := (argumentHigh s 3).toNat
  badRange offset length || (decide (kind = 6) && (badRange offset2 length
    || decide (offset < offset2 + length ∧ offset2 < offset + length)))

/-- The last two checks: what the slots in use leave (R51). -/
def slotsLeftChecks (s : State) (kind : Nat) : List (Bool × ResultCode) :=
  [ (decide (kind = 6) && decide (8 ≤ standingCount s), .standingLimit),
    (decide (∀ n, (s.slot n).state ≠ .free), .noFreeSlot) ]

theorem submitChecks_eq (s : State) :
    submitChecks s =
      let kind := (argumentByte s 0 0).toNat
      (decide (kind = 0 ∨ 6 < kind), .badArgument) :: (targetChecks s kind (targetArgument s)
        ++ (badValues s kind, .badArgument) :: (badBuffers s kind, .bufferRange) :: slotsLeftChecks s kind) := rfl

/-- The target of an exchange with a station passes the checks of a handle (R2), and the station may be neither LOST nor
RETIRING (R49). -/
theorem checkTarget_station (s : State) {k : ExchangeKind} (target : BitVec 16) (hk : k ≠ .groupWrite) :
    checkTarget s k target = (firstFailure (targetChecks s (kindNumber k) target)).elim (.ok ()) .error := by
  have hkind : kindNumber k ≠ 5 := mt (kindNumber_eq_five_iff k).mp hk
  have hchecks : firstFailure (targetChecks s (kindNumber k) target) = (firstFailure (handleChecks s target)).or
      (firstFailure [(decide ((s.station (handleIndex target)).state = .lost), .stationLost),
        (decide ((s.station (handleIndex target)).state = .retiring), .stationState)]) := by
    rw [← firstFailure_append]
    simp [targetChecks, handleChecks, hkind]
  rw [checkTarget, if_neg hk, checkHandle_error, hchecks]
  cases firstFailure (handleChecks s target) with
  | some c => rfl
  | none =>
    simp only [Option.none_or, firstFailure_cons, firstFailure_nil, decide_eq_true_eq]
    split
    · rfl
    · split <;> rfl

/-- The target of a group write is a group address or the broadcast address (R49). -/
theorem checkTarget_group (s : State) (target : BitVec 16) :
    checkTarget s .groupWrite target = (firstFailure (targetChecks s 5 target)).elim (.ok ()) .error := by
  by_cases h : 240 ≤ target.toNat ∧ target.toNat ≤ 255 <;> simp [checkTarget, targetChecks, h]

theorem checkTarget_eq (s : State) (k : ExchangeKind) (target : BitVec 16) :
    checkTarget s k target = (firstFailure (targetChecks s (kindNumber k) target)).elim (.ok ()) .error := by
  by_cases hk : k = .groupWrite
  · subst hk
    exact checkTarget_group s target
  · exact checkTarget_station s target hk

theorem lengthOk_iff (k : ExchangeKind) (n : Nat) :
    lengthOk k n = true ↔
      (kindNumber k = 3 ∨ n ≠ 0) ∧ n ≤ if kindNumber k = 3 ∨ kindNumber k = 5 then 64 else 1024 := by
  cases k <;> simp [lengthOk, kindNumber, Nat.one_le_iff_ne_zero]

/-- A ready mode from the argument is one of three, and REPEAT needs a repeat limit (R50). -/
theorem readyModeOf_ok_iff (m limit : Nat) :
    (∃ mode, readyModeOf m = some mode ∧ (mode = .repeatBusy → 1 ≤ limit)) ↔ m ≤ 2 ∧ (m = 1 → limit ≠ 0) := by
  match m with
  | 0 | 1 | 2 => simp [readyModeOf, Nat.one_le_iff_ne_zero]
  | m + 3 => simp [readyModeOf]

/-- A group write takes any ready mode, and a standing read STOP alone (R36, R50). -/
theorem submitMode_ok_iff (k : ExchangeKind) (m limit : Nat) :
    (∃ mode, submitMode k m = some mode ∧ (mode = .repeatBusy → 1 ≤ limit)) ↔
      (kindNumber k = 6 → m = 0) ∧ (kindNumber k ≠ 5 → m ≤ 2 ∧ (m = 1 → limit ≠ 0)) := by
  cases k with
  | groupWrite => simp [submitMode, kindNumber]
  | standingRead => by_cases hm : m = 0 <;> simp [submitMode, kindNumber, hm]
  | read | write | control | sweepRead => simpa [submitMode, kindNumber] using readyModeOf_ok_iff m limit

theorem valuesOk_iff (k : ExchangeKind) (e : SubmitArgs) :
    valuesOk k e = true ↔ lengthOk k e.length = true ∧ (k = .sweepRead → e.segmentSize ≠ 0 ∧ e.segmentSize ≤ 64)
      ∧ (∃ mode, submitMode k e.readyMode = some mode ∧ (mode = .repeatBusy → 1 ≤ e.repeatLimit))
      ∧ (k = .standingRead → e.period ≠ 0) := by
  cases hmode : submitMode k e.readyMode <;>
    simp [valuesOk, hmode, Nat.one_le_iff_ne_zero, and_assoc, imp_iff_not_or]

theorem valuesOk_eq (s : State) (k : ExchangeKind) :
    valuesOk k (submitArgs s.port.snapshot) = !badValues s (kindNumber k) := by
  have hbyte : argumentByte s 0 2 = 0 ↔ (argumentByte s 0 2).toNat = 0 := BitVec.toNat_eq
  rw [Bool.eq_iff_iff, valuesOk_iff, lengthOk_iff, submitMode_ok_iff, ← kindNumber_eq_four_iff,
    ← kindNumber_eq_six_iff]
  simp only [submitArgs_length, submitArgs_segmentSize, submitArgs_readyMode, submitArgs_repeatLimit,
    submitArgs_period, badValues, hbyte, Bool.not_eq_true', decide_eq_false_iff_not]
  omega

theorem rangeOk_eq (offset length : Nat) : rangeOk offset length = !badRange offset length := by
  rw [Bool.eq_iff_iff]
  simp [rangeOk, badRange, bufferSize]
  omega

theorem buffersOk_iff (k : ExchangeKind) (e : SubmitArgs) :
    buffersOk k e = true ↔ badRange e.offset e.length = false ∧ (k = .standingRead → badRange e.offset2 e.length = false
      ∧ ¬(e.offset < e.offset2 + e.length ∧ e.offset2 < e.offset + e.length)) := by
  have hdisjoint : e.offset + e.length ≤ e.offset2 ∨ e.offset2 + e.length ≤ e.offset ↔
      ¬(e.offset < e.offset2 + e.length ∧ e.offset2 < e.offset + e.length) := by omega
  simp only [buffersOk, rangeOk_eq, Bool.and_eq_true, Bool.or_eq_true, Bool.not_eq_true', decide_eq_true_eq, hdisjoint,
    ne_eq, imp_iff_not_or]

theorem buffersOk_eq (s : State) (k : ExchangeKind) :
    buffersOk k (submitArgs s.port.snapshot) = !badBuffers s (kindNumber k) := by
  rw [Bool.eq_iff_iff, buffersOk_iff]
  simp only [submitArgs_length, submitArgs_offset, submitArgs_offset2, badBuffers, kindNumber_eq_six_iff,
    Bool.not_eq_true', Bool.or_eq_false_iff, Bool.and_eq_false_iff, decide_eq_false_iff_not, imp_iff_not_or]

theorem lowestFree_eq_none_iff (s : State) : lowestFree s = none ↔ ∀ n, (s.slot n).state ≠ .free := by
  simp [lowestFree, allSlots]

/-- SUBMIT fails with the first of its checks that fails (R48). -/
theorem checkSubmit_error {s : State} {c : ResultCode} (h : firstFailure (submitChecks s) = some c) :
    checkSubmit (submitArgs s.port.snapshot) s = .error c := by
  rw [submitChecks_eq, firstFailure_cons] at h
  rw [checkSubmit, submitArgs_kind, submitArgs_target]
  cases hk : kindOf (argumentByte s 0 0).toNat with
  | none =>
    rw [if_pos (decide_eq_true ((kindOf_eq_none_iff _).mp hk))] at h
    cases h
    rfl
  | some k =>
    have hn := eq_kindNumber_of_kindOf hk
    have hin : ¬((argumentByte s 0 0).toNat = 0 ∨ 6 < (argumentByte s 0 0).toNat) := by
      simp [← kindOf_eq_none_iff, hk]
    rw [if_neg (mt of_decide_eq_true hin), hn, firstFailure_append] at h
    simp only [checkTarget_eq, valuesOk_eq, buffersOk_eq, Bool.not_not]
    cases ht : firstFailure (targetChecks s (kindNumber k) (targetArgument s)) with
    | some c' =>
      rw [ht] at h
      cases h
      rfl
    | none =>
      rw [ht, Option.none_or] at h
      simp only [slotsLeftChecks, firstFailure_cons, firstFailure_nil, kindNumber_eq_six_iff,
        ← lowestFree_eq_none_iff, ← Bool.decide_and, decide_eq_true_eq] at h
      simp only [Option.elim_none]
      split_ifs at h ⊢ with hvalues hbuffers hlimit hfull <;> cases h
      · rfl
      · rfl
      · rfl
      · rw [hfull]

/-- Settles O22: the first failing check is the one at which the Exchange Engine refuses. -/
theorem submitChecksInOrder : Obligations.SubmitChecksInOrder := by
  intro s c h hc
  refine refused_of_body rfl h ?_
  simp only [submitBody, checkSubmit_error hc]

/-! ### COLLECT (R62, R63) -/

theorem collectSlot_slot (s : State) (n m : SlotIdx) :
    (collectSlot s n).slot m = if m = n then { s.slot n with state := .free } else s.slot m :=
  State.modSlot_slot s n m fun x => { x with state := .free }

theorem collectBody_complete {s : State} {n : SlotIdx} (hn : n.val = (argumentByte s 0 0).toNat)
    (hx : (s.slot n).state = .complete) :
    collectBody s.port.snapshot s
      = answer (drawn (collectSlot s n)) (resultRecord n (s.slot n) (freeByte s)) := by
  have hcheck : checkSlot s (field s.port.snapshot[0] 0) = .ok n := checkSlot_ok hn (by simp [hx])
  simp [collectBody, hcheck, hx]

theorem collectBody_notComplete {s : State} {n : SlotIdx} (hn : n.val = (argumentByte s 0 0).toNat)
    (hf : (s.slot n).state ≠ .free) (hx : (s.slot n).state ≠ .complete) :
    collectBody s.port.snapshot s = refuse s .notComplete := by
  have hcheck : checkSlot s (field s.port.snapshot[0] 0) = .ok n := checkSlot_ok hn hf
  simp [collectBody, hcheck, hx]

/-- A bad slot number refuses a COLLECT with the code of its check (R34). -/
theorem collectBody_badSlot {s : State} {c : ResultCode} (h : firstFailure (slotChecks s) = some c) :
    collectBody s.port.snapshot s = refuse s c := by
  have hcheck : checkSlot s (field s.port.snapshot[0] 0) = .error c := checkSlot_error h
  simp [collectBody, hcheck]

/-- The result record in the layout of Table 11-7. -/
theorem resultRecord_eq {x : Slot} {c : CompletionCode} (n : SlotIdx) (hc : x.code = some c) (noStatus : Byte) :
    let counts (w : Word) : Word := if x.kind = .standingRead then w else 0
    resultRecord n x noStatus =
      [ x.tag ++ (BitVec.ofNat 8 (completionCodeNumber c) ++ BitVec.ofNat 8 n.val),
        BitVec.ofNat 16 x.skipped ++ BitVec.ofNat 16 x.bytesTransferred,
        packBytes (BitVec.ofNat 8 x.attempts) (x.lastStatus.getD noStatus) (if x.lastStatus.isSome then 1 else 0) 0,
        counts (BitVec.ofNat 16 x.cycleMisses ++ x.cycles),
        counts (0#16 ++ BitVec.ofNat 16 x.overruns),
        0 ] := by
  have hn : n.val < 256 := by omega
  simp [resultRecord, codeNumber, hc, halves_eq_append, ofNat_two_bytes hn, ofNat_flagCode]

/-- Settles O27: a check that fails refuses; else the record is returned and the slot is FREE. -/
theorem collectReturnsResultAndFrees : Obligations.CollectReturnsResultAndFrees := by
  intro s h
  refine ⟨fun c hc => refused_of_body rfl h ?_, fun n c hn hx hcode => ?_⟩
  · rw [firstFailure_append] at hc
    cases hslot : firstFailure (slotChecks s) with
    | some c' =>
      rw [hslot] at hc
      cases hc
      exact collectBody_badSlot hslot
    | none =>
      obtain ⟨n, hn, hf⟩ := slot_of_slotChecks hslot
      rw [hslot, Option.none_or, firstFailure_cons] at hc
      split at hc
      · next hstate =>
        cases hc
        exact collectBody_notComplete hn hf (of_decide_eq_true hstate n hn)
      · cases hc
  · have hbody := collectBody_complete hn hx
    rw [resultRecord_eq n hcode] at hbody
    obtain ⟨hexec, hends⟩ := exec_of_body (i := .collect) rfl h hbody (by simp)
    refine ⟨_, freeByte s, hexec, hends, ?_, fun m hm => ?_, rfl, rfl⟩
    · exact (collectSlot_slot s n n).trans (if_pos rfl)
    · exact (collectSlot_slot s n m).trans (if_neg hm)

end Sys2Proof.Machine
end

section
/-! The standing-read commands CLAIM and UNCLAIM (R102, R103). -/

namespace Sys2Proof.Machine

/-! ### The checks both commands make -/

/-- The checks of CLAIM and UNCLAIM, in order: the slot number, the kind, and completion. -/
def standingChecks (s : State) : List (Bool × ResultCode) :=
  slotChecks s ++
    [ (decide (∀ n : SlotIdx, n.val = (argumentByte s 0 0).toNat → (s.slot n).kind ≠ .standingRead), .badArgument),
      (decide (∀ n : SlotIdx, n.val = (argumentByte s 0 0).toNat → (s.slot n).state = .complete), .alreadyComplete) ]

/-- A property of every slot of a number is one of the slot it names. -/
theorem forall_slot_iff {P : SlotIdx → Prop} {n : SlotIdx} {k : Nat} (hn : n.val = k) :
    (∀ m : SlotIdx, m.val = k → P m) ↔ P n :=
  ⟨fun h => h n hn, fun h _ hm => Fin.ext (hm.trans hn.symm) ▸ h⟩

/-- The check of R34 passes the slot in use on to the checks of kind and completion. -/
theorem checkStanding_of_slot {s : State} {n : SlotIdx} (hn : n.val = (argumentByte s 0 0).toNat)
    (hf : (s.slot n).state ≠ .free) :
    checkStanding s.port.snapshot s =
      if (s.slot n).kind ≠ .standingRead then .error .badArgument
      else if (s.slot n).state = .complete then .error .alreadyComplete else .ok n := by
  have hcheck : checkSlot s (field s.port.snapshot[0] 0) = .ok n := checkSlot_ok hn hf
  simp only [checkStanding, hcheck]

theorem checkStanding_ok {s : State} {n : SlotIdx} (hn : n.val = (argumentByte s 0 0).toNat)
    (hk : (s.slot n).kind = .standingRead) (hf : (s.slot n).state ≠ .free) (hc : (s.slot n).state ≠ .complete) :
    checkStanding s.port.snapshot s = .ok n := by
  rw [checkStanding_of_slot hn hf, if_neg (not_not.mpr hk), if_neg hc]

theorem checkStanding_error {s : State} {c : ResultCode} (h : firstFailure (standingChecks s) = some c) :
    checkStanding s.port.snapshot s = .error c := by
  rw [standingChecks, firstFailure_append] at h
  cases hslot : firstFailure (slotChecks s) with
  | some c' =>
    have hcheck : checkSlot s (field s.port.snapshot[0] 0) = .error c' := checkSlot_error hslot
    rw [hslot] at h
    cases h
    simp only [checkStanding, hcheck]
  | none =>
    obtain ⟨n, hn, hf⟩ := slot_of_slotChecks hslot
    simp only [hslot, Option.none_or, firstFailure_cons, firstFailure_nil, decide_eq_true_eq, forall_slot_iff hn] at h
    rw [checkStanding_of_slot hn hf]
    split_ifs at h ⊢ <;> cases h <;> rfl

/-! ### Buffers released and claimed -/

theorem releaseRole_eq (x : Role) : releaseRole x = if x = .heldByHost then .seen else x := by cases x <;> rfl

/-- The release of a held buffer makes none FRESH (R102). -/
@[simp] theorem releaseRole_eq_fresh_iff (x : Role) : releaseRole x = .fresh ↔ x = .fresh := by
  cases x <;> simp [releaseRole]

section
variable {s : State} {n : SlotIdx} (hcheck : checkStanding s.port.snapshot s = .ok n)
include hcheck

/-- CLAIM of a slot whose first buffer is FRESH takes that one (R102). -/
theorem claimBody_first (h1 : (s.slot n).role1 = .fresh) :
    claimBody s.port.snapshot s =
      answer (s.setSlot n { s.slot n with role1 := .heldByHost, role2 := releaseRole (s.slot n).role2 })
        [num (s.slot n).offset, (s.slot n).fill1.setWidth 32, num (s.slot n).overruns] := by
  simp [claimBody, hcheck, releaseHeld, h1]

/-- CLAIM of a slot whose second buffer alone is FRESH takes that one (R102). -/
theorem claimBody_second (h1 : (s.slot n).role1 ≠ .fresh) (h2 : (s.slot n).role2 = .fresh) :
    claimBody s.port.snapshot s =
      answer (s.setSlot n { s.slot n with role1 := releaseRole (s.slot n).role1, role2 := .heldByHost })
        [num (s.slot n).offset2, (s.slot n).fill2.setWidth 32, num (s.slot n).overruns] := by
  simp [claimBody, hcheck, releaseHeld, h1, h2]

/-- CLAIM of a slot with no FRESH buffer only releases (R102). -/
theorem claimBody_nothingFresh (h1 : (s.slot n).role1 ≠ .fresh) (h2 : (s.slot n).role2 ≠ .fresh) :
    claimBody s.port.snapshot s = ⟨s.setSlot n (releaseHeld (s.slot n)), .nothingFresh, []⟩ := by
  simp [claimBody, hcheck, releaseHeld, h1, h2]

theorem unclaimBody_eq :
    unclaimBody s.port.snapshot s = answer (s.setSlot n (releaseHeld (s.slot n)))
      [if (s.slot n).role1 = .heldByHost ∨ (s.slot n).role2 = .heldByHost then 1 else 0] := by
  simp only [unclaimBody, hcheck, ← Bool.decide_or]
  by_cases hheld : (s.slot n).role1 = .heldByHost ∨ (s.slot n).role2 = .heldByHost <;> simp [hheld, flagCode, num]

end

/-- An accepted command whose body changes one slot ends with the body's code and values, and nothing but that slot
changes beside the port and the line (R182). -/
theorem exec_of_setSlot {i : Instr} {code : Nat} {body : Vector Word 6 → State → CmdResult} {s : State} {n : SlotIdx}
    {x : Slot} {c : ResultCode} {values : List Word} (hi : exec i s = runCommand code body s) (h : Accepted s code)
    (hb : body s.port.snapshot s = ⟨s.setSlot n x, c, values⟩) :
    ∃ t, exec i s = .next t ∧ Ends s t c values ∧ t.slot n = x ∧ OtherSlots n s t
      ∧ t = { s with port := t.port, slots := t.slots, interruptLine := t.interruptLine } := by
  obtain ⟨hexec, hends⟩ := exec_of_body hi h hb rfl
  exact ⟨_, hexec, hends, State.setSlot_slot_self s n x, fun m hm => State.setSlot_slot_ne s x hm, rfl⟩

/-! ### CLAIM (R102) -/

/-- Settles O28: a check that fails refuses; else the case split is over which buffer is FRESH. -/
theorem claimHoldsFreshBuffer : Obligations.ClaimHoldsFreshBuffer := by
  intro s h
  refine ⟨fun c hc => refused_of_body rfl h ?_, fun n hn hk hf hc => ?_⟩
  · simp only [claimBody, checkStanding_error hc]
  have hcheck := checkStanding_ok hn hk hf hc
  simp only [← releaseRole_eq]
  by_cases h1 : (s.slot n).role1 = .fresh
  · obtain ⟨t, hexec, hends, hslot, hother, hframe⟩ := exec_of_setSlot (i := .claim) rfl h (claimBody_first hcheck h1)
    exact ⟨t, hexec, hother, hframe, fun _ => ⟨hends, hslot⟩, absurd h1, absurd h1⟩
  by_cases h2 : (s.slot n).role2 = .fresh
  · obtain ⟨t, hexec, hends, hslot, hother, hframe⟩ :=
      exec_of_setSlot (i := .claim) rfl h (claimBody_second hcheck h1 h2)
    exact ⟨t, hexec, hother, hframe, (absurd · h1), fun _ _ => ⟨hends, hslot⟩, fun _ => absurd h2⟩
  · obtain ⟨t, hexec, hends, hslot, hother, hframe⟩ :=
      exec_of_setSlot (i := .claim) rfl h (claimBody_nothingFresh hcheck h1 h2)
    exact ⟨t, hexec, hother, hframe, (absurd · h1), fun _ => (absurd · h2), fun _ _ => ⟨hends, hslot⟩⟩

/-! ### UNCLAIM (R103) -/

/-- Settles O29: a check that fails refuses; else the held buffer is released and the value says whether there was one. -/
theorem unclaimReleasesBuffer : Obligations.UnclaimReleasesBuffer := by
  intro s h
  refine ⟨fun c hc => refused_of_body rfl h ?_, fun n hn hk hf hc => ?_⟩
  · simp only [unclaimBody, checkStanding_error hc]
  · simp only [← releaseRole_eq]
    exact exec_of_setSlot (i := .unclaim) rfl h (unclaimBody_eq (checkStanding_ok hn hk hf hc))

end Sys2Proof.Machine
end

section
/-! END_SERVICE: the re-raise of the popped station (R141) and the checks (R140). -/

namespace Sys2Proof.Machine

/-! ### Records written twice, and as they were -/

theorem State.setStation_self (s : State) (r : RecIdx) : s.setStation r (s.station r) = s := by
  simp [State.setStation, State.station]

theorem State.setStation_setStation (s : State) (r : RecIdx) (x y : Station) :
    (s.setStation r x).setStation r y = s.setStation r y := by
  simp [State.setStation]

/-! ### The re-raise of a popped station (R141) -/

/-- The station requests again when its entry is popped (R141). -/
def raisesAgain (x : Station) : Bool := x.reRaise && x.armed && decide (x.state ≠ .lost)

/-- The record after its entry has been popped: its flag is clear, and a new request starts at a count of 1 (R141). -/
def reRaisedRecord (x : Station) : Station :=
  { x with reRaise := false, coalesce := if raisesAgain x then 1 else x.coalesce }

/-- A record without the flag stays as it is. -/
theorem reRaisedRecord_of_flag_clear {x : Station} (h : x.reRaise = false) : reRaisedRecord x = x := by
  cases x
  simp_all [reRaisedRecord, raisesAgain]

/-- The station joins the tail of the list of one priority (R131). -/
theorem joinPending_serviceLists (s : State) (p q : Fin 8) (r : RecIdx) :
    (joinPending s p r).serviceLists[q] = s.serviceLists[q] ++ if q = p then [r] else [] := by
  by_cases h : q = p
  · subst h
    simp [joinPending]
  · have hv : p.val ≠ q.val := fun e => h (Fin.ext e.symm)
    simp [joinPending, h, hv]

/-- The pending lists and the records are apart. -/
theorem joinPending_setStation (s : State) (p : Fin 8) (r q : RecIdx) (x : Station) :
    joinPending (s.setStation q x) p r = (joinPending s p r).setStation q x := rfl

/-- The whole of R141: the station joins the list of its priority if it requests again, and its record changes. -/
theorem reRaiseStation_eq (s : State) (r : RecIdx) :
    reRaiseStation s r = (if raisesAgain (s.station r) then joinPending s (s.station r).priority r else s).modStation r
      reRaisedRecord := by
  cases hflag : (s.station r).reRaise with
  | false =>
    simp [reRaiseStation, raisesAgain, hflag, State.modStation, reRaisedRecord_of_flag_clear, State.setStation_self]
  | true =>
    by_cases hagain : (s.station r).armed = true ∧ (s.station r).state ≠ .lost
    · have hr : raisesAgain (s.station r) = true := by simpa [raisesAgain, hflag] using hagain
      simp [reRaiseStation, hflag, hagain, hr, State.modStation, joinPending_setStation, State.setStation_setStation,
        reRaisedRecord]
    · have hr : raisesAgain (s.station r) = false := by simpa [raisesAgain, hflag] using hagain
      simp [reRaiseStation, hflag, hagain, hr, State.modStation, reRaisedRecord]

theorem reRaiseStation_station (s : State) (r q : RecIdx) :
    (reRaiseStation s r).station q = if q = r then reRaisedRecord (s.station r) else s.station q := by
  rw [reRaiseStation_eq, State.modStation_station]
  split_ifs <;> simp

theorem reRaiseStation_serviceLists (s : State) (r : RecIdx) (p : Fin 8) :
    (reRaiseStation s r).serviceLists[p] = s.serviceLists[p] ++
      if raisesAgain (s.station r) = true ∧ p = (s.station r).priority then [r] else [] := by
  rw [reRaiseStation_eq, State.modStation_serviceLists]
  cases raisesAgain (s.station r) with
  | true => simpa using joinPending_serviceLists s (s.station r).priority p r
  | false => simp

/-! ### The checks and the pop (R140) -/

/-- The entry is the one of the record the handle names, at the handle's generation (R140). -/
def isEntryOf (h : BitVec 16) (e : StackEntry) : Bool :=
  decide (e.record = handleIndex h ∧ e.generation = h.extractLsb' 8 8)

/-- The checks of END_SERVICE, in order: the handle, an entry in service, and the handle's entry on top. -/
def endServiceChecks (s : State) (h : BitVec 16) : List (Bool × ResultCode) :=
  handleChecks s h ++
    [ (decide (s.serviceStack = []), .nothingInService),
      (!(s.serviceStack.head?.any (isEntryOf h)), .order) ]

theorem endServiceBody_refuses {s : State} {c : ResultCode}
    (hc : firstFailure (endServiceChecks s (handleArgument s)) = some c) :
    endServiceBody s.port.snapshot s = refuse s c := by
  have hcheck : checkHandle s (lowHalf s.port.snapshot[0]) = _ := checkHandle_error (h := handleArgument s)
  rw [endServiceChecks, firstFailure_append] at hc
  cases hhandle : firstFailure (handleChecks s (handleArgument s)) with
  | some c' =>
    rw [hhandle] at hcheck hc
    cases hc
    simp only [endServiceBody, hcheck]
  | none =>
    rw [hhandle] at hcheck hc
    cases hstack : s.serviceStack with
    | nil =>
      obtain rfl : .nothingInService = c := by simpa [hstack] using hc
      simp only [endServiceBody, hcheck, hstack]
    | cons top rest =>
      obtain ⟨htop, rfl⟩ : isEntryOf (handleArgument s) top = false ∧ .order = c := by simpa [hstack] using hc
      simp only [endServiceBody, hcheck, hstack]
      exact if_neg (of_decide_eq_false htop)

/-- An END_SERVICE that passes its checks pops and re-raises, and answers the entries left and the entry's vector (R140,
R141). -/
theorem endServiceBody_pops {s : State} {r : RecIdx} {top : StackEntry} {rest : List StackEntry}
    (hn : Names s (handleArgument s) r) (hstack : s.serviceStack = top :: rest)
    (htop : isEntryOf (handleArgument s) top = true) :
    endServiceBody s.port.snapshot s =
      answer (reRaiseStation { s with serviceStack := rest } r) [num rest.length, top.vector.setWidth 32] := by
  have hcheck := checkHandle_argument hn
  have hr : handleIndex (handleArgument s) = r := by
    obtain ⟨_, hval, _⟩ := hn
    exact Fin.ext hval.symm
  have hentry : top.record = r ∧ top.generation = handleGeneration (lowHalf s.port.snapshot[0]) :=
    hr ▸ of_decide_eq_true htop
  simp only [endServiceBody, hcheck, hstack]
  exact if_pos hentry

/-- Settles O30: a check that fails refuses; else every field is read off the pop and the re-raise. -/
theorem endServicePopsTop : Obligations.EndServicePopsTop := by
  intro s h
  refine ⟨fun c hc => refused_of_body rfl h (endServiceBody_refuses hc), fun r top rest hn hstack htop => ?_⟩
  obtain ⟨hexec, hends⟩ := exec_of_body (i := .endService) rfl h (endServiceBody_pops hn hstack htop) (by simp)
  refine ⟨_, hexec, hends, ?_, ?_, fun q hq => ?_, fun p => ?_, ?_⟩
  · simp
  · exact (reRaiseStation_station _ r r).trans (if_pos rfl)
  · exact (reRaiseStation_station _ r q).trans (if_neg hq)
  · exact reRaiseStation_serviceLists _ r p
  · ext1 <;> simp

end Sys2Proof.Machine
end

section
/-! The parameter commands SET_PARAM and GET_PARAM (R185, R186). -/

namespace Sys2Proof.Machine

/-! ### Parameters as a list (Tables 9-4 and 11-5) -/

/-- The values of the parameters, in the order of their identifiers (Table 11-5). -/
def Params.toList (p : Params) : List Nat :=
  [ p.pollPeriod0, p.pollPeriod1, p.pollPeriod2, p.pollPeriod3, p.probePeriod, p.replyWindow, p.guardTime,
    p.repeatInterval, p.retryLimit, p.suspectAt, p.lostAt, p.lineHoldTime, p.spuriousVector, p.rateA, p.rateB ]

@[simp] theorem Params.length_toList (p : Params) : p.toList.length = 15 := rfl

/-- Identifiers count from 1. -/
theorem Params.getElem?_toList (p : Params) {j : Nat} (h1 : 1 ≤ j) (h15 : j ≤ 15) :
    p.toList[j - 1]? = some (p.get j) := by
  interval_cases j <;> rfl

theorem Params.toList_put (p : Params) {j : Nat} (h1 : 1 ≤ j) (h15 : j ≤ 15) (v : Nat) :
    (p.put j v).toList = p.toList.set (j - 1) v := by
  interval_cases j <;> rfl

/-- A parameter stored is read back, and the others keep their values (R185). -/
theorem Params.get_put (p : Params) {i j : Nat} (hi1 : 1 ≤ i) (hi15 : i ≤ 15) (hj1 : 1 ≤ j) (hj15 : j ≤ 15) (v : Nat) :
    (p.put i v).get j = if j = i then v else p.get j := by
  have hread : some ((p.put i v).get j) = (p.toList.set (i - 1) v)[j - 1]? := by
    rw [← toList_put p hi1 hi15, getElem?_toList _ hj1 hj15]
  apply Option.some.inj
  by_cases h : j = i
  · subst h
    rw [hread, if_pos rfl, List.getElem?_set_self (by rw [length_toList]; omega)]
  · rw [hread, if_neg h, List.getElem?_set_ne (by omega), getElem?_toList p hj1 hj15]

/-! ### The checks of SET_PARAM (R185) -/

/-- The checks of SET_PARAM, in order: the identifier, the range, SUSPECT_AT below LOST_AT, and the rate of a trunk that
is not DISABLED. -/
def setParamChecks (s : State) (id v : Nat) : List (Bool × ResultCode) :=
  [ (decide ¬(1 ≤ id ∧ id ≤ 15), .badArgument),
    (!paramInRange id v, .badArgument),
    (decide (id = 10 ∧ s.params.lostAt ≤ v ∨ id = 11 ∧ v ≤ s.params.suspectAt), .badArgument),
    (decide (id = 14 ∧ s.trunkA.state ≠ .disabled ∨ id = 15 ∧ s.trunkB.state ≠ .disabled), .trunkState) ]

theorem not_paramExists_eq (id : Nat) : (!paramExists id) = decide ¬(1 ≤ id ∧ id ≤ 15) := by
  simp only [paramExists, decide_not, Bool.decide_and]

theorem not_thresholdOk_eq (p : Params) (id v : Nat) :
    (!thresholdOk p id v) = decide (id = 10 ∧ p.lostAt ≤ v ∨ id = 11 ∧ v ≤ p.suspectAt) := by
  rw [Bool.eq_iff_iff]
  simp [thresholdOk]

theorem rateLocked_eq (s : State) (id : Nat) :
    rateLocked s id = decide (id = 14 ∧ s.trunkA.state ≠ .disabled ∨ id = 15 ∧ s.trunkB.state ≠ .disabled) := by
  unfold rateLocked rateTrunk
  split
  · next ht => split at ht <;> cases ht <;> exact decide_eq_decide.mpr (by simp [State.trunk])
  · next ht =>
    refine (decide_eq_false ?_).symm
    rintro (⟨rfl, _⟩ | ⟨rfl, _⟩) <;> cases ht

/-- The first failing check decides how a chain of checks comes out. -/
theorem elim_firstFailure_cons {α : Type} (fails : Bool) (c : ResultCode) (rest : List (Bool × ResultCode)) (passed : α)
    (failed : ResultCode → α) :
    (firstFailure ((fails, c) :: rest)).elim passed failed
      = if fails then failed c else (firstFailure rest).elim passed failed := by
  cases fails <;> rfl

/-- SET_PARAM refuses at the first failing check, and else stores the value and answers the one before (R185). -/
theorem setParamBody_eq (s : State) :
    setParamBody s.port.snapshot s =
      (firstFailure (setParamChecks s (argumentByte s 0 0).toNat (argumentHalf s 1))).elim
        (answer { s with port := { s.port with params := s.params.put (argumentByte s 0 0).toNat (argumentHalf s 1) } }
          [num (s.params.get (argumentByte s 0 0).toNat)])
        (refuse s) := by
  simp only [setParamChecks, elim_firstFailure_cons, ← not_paramExists_eq, ← not_thresholdOk_eq, ← rateLocked_eq]
  rfl

/-- A SET_PARAM that passes its checks names a parameter. -/
theorem paramExists_of_setParamChecks {s : State} {id v : Nat} (h : firstFailure (setParamChecks s id v) = none) :
    1 ≤ id ∧ id ≤ 15 := by
  by_contra hid
  simp [setParamChecks, hid] at h

/-! ### GET_PARAM (R186) -/

theorem getParamBody_eq (s : State) :
    getParamBody s.port.snapshot s =
      if 1 ≤ (argumentByte s 0 0).toNat ∧ (argumentByte s 0 0).toNat ≤ 15 then
        answer s [num (s.params.get (argumentByte s 0 0).toNat)]
      else refuse s .badArgument := by
  have hid : (!paramExists (field s.port.snapshot[0] 0)) = _ := not_paramExists_eq (argumentByte s 0 0).toNat
  simp only [getParamBody, hid, decide_eq_true_eq, ite_not]
  rfl

/-! ### The statement -/

/-- Settles O11: the first failing check refuses; else what is stored and answered is read off the command's effect. -/
theorem parametersAreSetAndRead : Obligations.ParametersAreSetAndRead := by
  intro s id v checks
  refine ⟨fun h => ⟨fun c hc => ?refusedSet, fun hc => ?storedSet⟩, fun h => ⟨fun hid => ?refusedGet, fun hid => ?readGet⟩⟩
  case refusedSet =>
    exact refused_of_body rfl h ((setParamBody_eq s).trans (congrArg (Option.elim · _ _) hc))
  case storedSet =>
    have hbody := (setParamBody_eq s).trans (congrArg (Option.elim · _ _) hc)
    obtain ⟨hid1, hid15⟩ := paramExists_of_setParamChecks hc
    refine ⟨_, s.params.put id v, ?_, ends_of_port rfl .ok _, fun j hj1 hj15 => ?_, rfl⟩
    · exact (runCommand_of_accepted h).trans (by rw [hbody]; rfl)
    · exact Params.get_put s.params hid1 hid15 hj1 hj15 v
  case refusedGet =>
    exact refused_of_body rfl h ((getParamBody_eq s).trans (if_neg hid))
  case readGet =>
    obtain ⟨hexec, hends⟩ := exec_of_body (i := .getParam) rfl h ((getParamBody_eq s).trans (if_pos hid)) rfl
    exact ⟨_, hexec, hends, rfl⟩

end Sys2Proof.Machine
end
